-- ==== Sys2Proof/Word.lean ====
section
/-!
DEFINITION. The data the block's registers, tables and lines hold (spec/10_state.md, spec/20_memory.md,
spec/30_encoding.md section 1). Types only: how an entry of an index space is read stands in
Machine/Operands.lean, the bit layouts of R81 stand in Decode.lean.

R80 lets a model use abstract types in place of the spec's own bit assignments ("and lose nothing"), and
R65, R91, R92 ask for types in which the reserved codes cannot be written: a digit has ten values, `Mode`
and `KeyState` three, a key column three.
-/

namespace Sys2Proof

/-- One decimal digit, 0..9 (R21, R82). The codes 10..15 of the 4-bit format are not values (R91). -/
abbrev Digit := Fin 10

/-- A digit position of DigitBuffer or of the display, 0..3; position 0 is the most significant (R7, R31). -/
abbrev Position := Fin 4

/-- A row of the key matrix, 0..3 (R7, R84). -/
abbrev KeyRow := Fin 4

/-- A column of the key matrix, 0..2 (R7, R84); column 3 is reserved (R92). -/
abbrev KeyCol := Fin 3

/-- The dispatch selector word `SEL` (R88): 8 bits, a function of the event and the state, stored nowhere. -/
abbrev Sel := BitVec 8

/-- DigitBuffer (R21): exactly four digits, `d0` the most significant. -/
structure DigitBuffer where
  d0 : Digit
  d1 : Digit
  d2 : Digit
  d3 : Digit
deriving DecidableEq, Repr

/-- The three columns of one row of the key matrix. -/
structure Triple (α : Type) where
  c0 : α
  c1 : α
  c2 : α
deriving DecidableEq, Repr

/-- One entry for each of the 4 x 3 key positions (R5 `KEY_ROWS`, `KEY_COLS`; R60 the index space `KEY`). -/
structure Grid (α : Type) where
  r0 : Triple α
  r1 : Triple α
  r2 : Triple α
  r3 : Triple α
deriving DecidableEq, Repr

/-- `pressed` (R10): for each key position, whether the key there is held down. -/
abbrev KeyMatrix := Grid Bool

/-- `KEYMAP` (R5, R60): for each key position the digit it yields, or none for an unused position. -/
abbrev KeyMap := Grid (Option Digit)

/-- `SEGTABLE` (R5, R60, the index space `SEG`): ten 8-bit segment patterns, one for each digit. -/
structure SegTable where
  s0 : BitVec 8
  s1 : BitVec 8
  s2 : BitVec 8
  s3 : BitVec 8
  s4 : BitVec 8
  s5 : BitVec 8
  s6 : BitVec 8
  s7 : BitVec 8
  s8 : BitVec 8
  s9 : BitVec 8
deriving DecidableEq, Repr

/-- `chunkKind` (R23): the kind of the chunk the synthesis timer is counting now. -/
inductive ChunkKind where
  | full
  | trim
deriving DecidableEq, Repr

/-- `mode` (R24): the engine's mode; the code 3 is reserved (R92) and is no value. -/
inductive Mode where
  | idle
  | short
  | long
deriving DecidableEq, Repr

/-- `KS` (R29): the state of the keypad input path; the code 3 is reserved (R92) and is no value. -/
inductive KeyState where
  | rows
  | cols
  | debounce
deriving DecidableEq, Repr

/-- `phase` (R31): the phase of the display refresher. -/
inductive Phase where
  | loadSegments
  | enableDigit
deriving DecidableEq, Repr

/-- `CTL_EDGE` (R5, R202): which edge of the external control signal is the edge. No rule depends on it. -/
inductive CtlEdge where
  | rising
  | falling
deriving DecidableEq, Repr

/-- The event classes of R88: what `SEL[7:5]` = `EV` may say (5, 6 and 7 are reserved). -/
inductive EventClass where
  | cnt
  | ctl
  | syn
  | key
  | dsp
deriving DecidableEq, Repr

/-- A timer channel with a run bit (R37): `cnt` in 0 .. `TIMER_RANGE` - 1, counting up. -/
structure Channel where
  cnt : Nat
  run : Bool
deriving DecidableEq, Repr

end Sys2Proof
end

