-- ==== Sys2Proof/Config.lean ====
section
/-!
DEFINITION. The implementation parameters of R5, their admissibility (R269, with R5 and R121), and the free
values: the parameters of the platform the block is built on, and the choices of the environment and the
scheduler. The free values are constants with no body: nothing in Lean can evaluate them.

The parameters are no state of the block (R45). A `State` carries the `Config` it was built with, so that
every statement over all states is a statement over all admissible parameters (R5: "a model should take every
parameter marked OPEN as an argument").
-/

namespace Sys2Proof

/-- The table of R5. `CYCLE_US` is the rational `cycleNum / cycleDen` (the p/q of R114).
`DEBOUNCE_SPANS`, `DIGITS`, `KEY_ROWS`, `KEY_COLS` are fixed by the source and are constants or types. -/
structure Params where
  /-- `TIMER_RANGE`, the modulus of `T_SYN` and `T_DEB`. -/
  timerRange : Nat
  /-- numerator of `CYCLE_US`. -/
  cycleNum : Nat
  /-- denominator of `CYCLE_US`. -/
  cycleDen : Nat
  /-- `OVERHEAD`, `fixedOverheadCycles`. -/
  overhead : Nat
  /-- `ZERO_CHUNK_CYCLES`. -/
  zeroChunkCycles : Nat
  /-- `CHAIN_BITS`. -/
  chainBits : Nat
  /-- `KEYMAP`. -/
  keyMap : KeyMap
  /-- `SEGTABLE`. -/
  segTable : SegTable
  /-- `SEG_BLANK`. -/
  segBlank : BitVec 8
  /-- `DISP_PERIOD`. -/
  dispPeriod : Nat
  /-- `DIGIT_INIT`. -/
  digitInit : DigitBuffer
  /-- `CTL_EDGE`. -/
  ctlEdge : CtlEdge
deriving DecidableEq, Repr

/-- `DEBOUNCE_SPANS` (R5): "a fixed number (6) of full native timer spans". -/
def Config.debounceSpans : BitVec 3 := 6

/-- The entries of a grid in row-major order. -/
def Grid.entries {α : Type} (g : Grid α) : List α :=
  [g.r0.c0, g.r0.c1, g.r0.c2, g.r1.c0, g.r1.c1, g.r1.c2,
   g.r2.c0, g.r2.c1, g.r2.c2, g.r3.c0, g.r3.c1, g.r3.c2]

/-- R5, R269: a power of two, at least 2. -/
def Params.timerRangeOk (p : Params) : Bool :=
  decide (2 ≤ p.timerRange) && decide (2 ^ Nat.log2 p.timerRange = p.timerRange)

/-- R5, R269: `CYCLE_US` is a positive rational. -/
def Params.cycleOk (p : Params) : Bool :=
  decide (0 < p.cycleNum) && decide (0 < p.cycleDen)

/-- R5, R269: `ZERO_CHUNK_CYCLES` in 1 .. `TIMER_RANGE`. -/
def Params.zeroChunkOk (p : Params) : Bool :=
  decide (1 ≤ p.zeroChunkCycles) && decide (p.zeroChunkCycles ≤ p.timerRange)

/-- `H_MAX` of R121: the half-period of `f` = 1. -/
def Params.hMax (p : Params) : Nat := 500000 * p.cycleDen / p.cycleNum - p.overhead

/-- `N_MAX` of R121. -/
def Params.nMax (p : Params) : Nat := p.hMax / p.timerRange - 1

/-- R121, R269: 2^`CHAIN_BITS` > `N_MAX`. -/
def Params.chainBitsOk (p : Params) : Bool := decide (p.nMax < 2 ^ p.chainBits)

/-- R5, R269: exactly ten of the twelve positions are mapped, one to each digit. -/
def Params.keyMapOk (p : Params) : Bool :=
  decide ((p.keyMap.entries.filterMap id).length = 10) &&
    decide (∀ d : Digit, some d ∈ p.keyMap.entries)

/-- R269: `DISP_PERIOD` >= 1. -/
def Params.dispPeriodOk (p : Params) : Bool := decide (1 ≤ p.dispPeriod)

/-- The admissibility conditions of R269. An inadmissible configuration is refused by type: no `Config`
holds one. `DIGIT_INIT` needs no check here, its digits are digits by type (R91). -/
def Params.admissible (p : Params) : Bool :=
  p.timerRangeOk && p.cycleOk && p.zeroChunkOk && p.chainBitsOk && p.keyMapOk && p.dispPeriodOk

/-- R5, R195: the full display cycle takes less than a millisecond, 8 x `DISP_PERIOD` x `CYCLE_US` < 1000.
It is timing and no rule depends on it; R269 does not list it and program P11d of spec/95_test_vectors.md
breaks it, so it is asked of the hardware's own platform only, not of every `Config`. -/
def Params.subMillisecond (p : Params) : Bool :=
  decide (8 * p.dispPeriod * p.cycleNum < 1000 * p.cycleDen)

/-- The parameters spec/95_test_vectors.md section 0 uses for its vectors. They are no values of the
hardware: `KEYMAP` is the example of R86, `SEGTABLE` the example of R87 (neither is built into any rule of
this model). They show that admissible parameters exist, the tests use them, and so does the aid
`State.withFetchWord`. -/
def Config.exampleParams : Params where
  timerRange := 65536
  cycleNum := 1
  cycleDen := 1
  overhead := 0
  zeroChunkCycles := 1
  chainBits := 8
  keyMap :=
    { r0 := ⟨some 1, some 2, some 3⟩, r1 := ⟨some 4, some 5, some 6⟩,
      r2 := ⟨some 7, some 8, some 9⟩, r3 := ⟨none, some 0, none⟩ }
  segTable := ⟨0x3F, 0x06, 0x5B, 0x4F, 0x66, 0x6D, 0x7D, 0x07, 0x7F, 0x6F⟩
  segBlank := 0x00
  dispPeriod := 100
  digitInit := ⟨0, 0, 0, 0⟩
  ctlEdge := .falling

/-- Admissible parameters: the raw data with the proof that R269's check accepts it. -/
structure Config extends Params where
  ok : toParams.admissible = true
deriving DecidableEq, Repr

/-- The example parameters as a `Config`. -/
def Config.example : Config := { Config.exampleParams with ok := by decide }

/-- The parameters of this hardware: admissible, with the values R5 gives "for this hardware"
(`TIMER_RANGE` = 65536, `CHAIN_BITS` = 8) and the display cycle below a millisecond (R5, R195). The default
values only show that such parameters exist. -/
structure Platform where
  config : Config := Config.example
  timerRange_eq : config.timerRange = 65536 := by decide
  chainBits_eq : config.chainBits = 8 := by decide
  subMillisecond_ok : config.subMillisecond = true := by decide
deriving Inhabited

/-- FREE VALUE: the parameters the platform fixes and the spec leaves OPEN (R5: `CYCLE_US`, `OVERHEAD`,
`ZERO_CHUNK_CYCLES`, `KEYMAP`, `SEGTABLE`, `SEG_BLANK`, `DISP_PERIOD`, `DIGIT_INIT`, `CTL_EDGE`).
DESIGN CHOICE, safe: see notes/assumptions/1.md. -/
opaque Config.platform : Platform

/-- One choice of the environment and the scheduler (R10, R224): a number that picks one of the enabled
event classes, and the keys held down when that event is served. -/
structure Choice where
  pick : Nat := 0
  keys : KeyMatrix :=
    ⟨⟨false, false, false⟩, ⟨false, false, false⟩, ⟨false, false, false⟩, ⟨false, false, false⟩⟩
deriving DecidableEq, Repr, Inhabited

/-- FREE VALUE: the environment's and the scheduler's choices, one for each event not given by a trace
(R224, R228, R231: the order is free, a claim must hold for all). DESIGN CHOICE, safe:
see notes/assumptions/2.md. -/
opaque Config.environment : Nat → Choice

end Sys2Proof
end

