-- ==== Sys2Proof/Syntax.lean ====
section
/-!
DEFINITION. The operations of the block, one constructor for each row of spec/opcode_table.json (R89), the
five reserved rows of R92 among them. What an ISA calls an instruction is here one atomic operation (R1).

The only field of an encoding that is neither fixed nor ignored is `ii` = `activeDigitIndex` of the class
DSP (R89). Bits a pattern ignores (`x`) are no operand.
-/

namespace Sys2Proof

/-- The operations of R89 in the table's order, then the reserved rows of R92. -/
inductive Instr where
  /-- `CNT`: one native cycle passes (R130). -/
  | cnt
  /-- `ACT.Z`: activation with frequency zero (R112). -/
  | actZ
  /-- `ACT.S`: activation into SHORT mode (R116). -/
  | actS
  /-- `ACT.L`: activation into LONG mode (R117). -/
  | actL
  /-- `DEACT`: deactivation (R206). -/
  | deact
  /-- `SYN.NOP`: a completion served while the engine is idle (R137). -/
  | synNop
  /-- `SYN.ST`: completion in SHORT mode (R140). -/
  | synSt
  /-- `SYN.LF`: a FULL chunk ended and more FULL chunks remain (R143). -/
  | synLf
  /-- `SYN.LR`: the last FULL chunk of the half-period ended (R144). -/
  | synLr
  /-- `SYN.LT`: the TRIM chunk ended (R145). -/
  | synLt
  /-- `KEY.IDLE`: a foreground step while active and not in a scan (R161). -/
  | keyIdle
  /-- `KEY.DROP`: a foreground step while active with a row latched (R162). -/
  | keyDrop
  /-- `KEY.ROW.MISS`: phase 1 finds no key down (R164). -/
  | keyRowMiss
  /-- `KEY.ROW.HIT`: phase 1 finds a row (R165). -/
  | keyRowHit
  /-- `KEY.COL.MISS`: phase 2 finds no key down in the latched row (R167). -/
  | keyColMiss
  /-- `KEY.COL.UNUSED`: phase 2 finds a key whose position yields no digit (R168). -/
  | keyColUnused
  /-- `KEY.COL.DIGIT`: phase 2 finds a digit key (R169). -/
  | keyColDigit
  /-- `KEY.WAIT`: a foreground step during the debounce wait (R174). -/
  | keyWait
  /-- `DSP.LOAD`: the tick in phase LOAD_SEGMENTS (R192). -/
  | dspLoad (ii : Position)
  /-- `DSP.EN`: the tick in phase ENABLE_DIGIT (R193). -/
  | dspEn (ii : Position)
  /-- `RESERVED`, pattern `010x11xx`: class SYN with the reserved mode code (R92). -/
  | reservedSyn
  /-- `RESERVED`, pattern `011x11xx`: class KEY with the reserved KS code (R92). -/
  | reservedKey
  /-- `RESERVED`, pattern `101xxxxx`: the reserved class 5 (R92). -/
  | reservedEv5
  /-- `RESERVED`, pattern `110xxxxx`: the reserved class 6 (R92). -/
  | reservedEv6
  /-- `RESERVED`, pattern `111xxxxx`: the reserved class 7 (R92). -/
  | reservedEv7
deriving DecidableEq, Repr

/-- The event class an operation belongs to (the class column of R89); a reserved row belongs to no event
the environment or the scheduler can deliver (R92). -/
def Instr.eventClass : Instr → Option EventClass
  | .cnt => some .cnt
  | .actZ | .actS | .actL | .deact => some .ctl
  | .synNop | .synSt | .synLf | .synLr | .synLt => some .syn
  | .keyIdle | .keyDrop | .keyRowMiss | .keyRowHit | .keyColMiss | .keyColUnused | .keyColDigit
  | .keyWait => some .key
  | .dspLoad _ | .dspEn _ => some .dsp
  | .reservedSyn | .reservedKey | .reservedEv5 | .reservedEv6 | .reservedEv7 => none

/-- A primary item of a trace (R96). A trace is what the block has in place of a program: what the
environment and the scheduler do, in order. -/
inductive TraceItem where
  /-- `cnt`, `ctl`, `syn`, `dsp`, `key`: one event of that class; its operation is the one `SEL` selects. -/
  | event (c : EventClass)
  /-- `keys { … }`: from now on exactly these keys are held down. No operation. -/
  | keys (m : KeyMatrix)
  /-- The model's own item: an event whose selector word is given instead of formed by R90 ("an event with
  such a `SEL`", R92). No environment delivers it; it is how `State.withFetchWord` names an operation. -/
  | selector (w : Sel)
deriving DecidableEq, Repr

end Sys2Proof
end

