-- ==== Sys2Proof/WellFormed.lean ====
section
/-!
DEFINITION. What a well-formed operation, trace item and configuration are.

Operands need no range check of their own: a `Position` is 0..3 by type. What is left to check of an
operation is that it is one of the twenty of R89 and not a reserved row of R92; of a trace item, that a
selector given in it is not a reserved one; of a configuration, R269 (`Params.admissible`, Config.lean).
-/

namespace Sys2Proof

/-- One of the twenty operations of R89 (the five reserved rows of R92 select no operation). -/
def Instr.wellFormed : Instr → Bool
  | .reservedSyn | .reservedKey | .reservedEv5 | .reservedEv6 | .reservedEv7 => false
  | .cnt | .actZ | .actS | .actL | .deact | .synNop | .synSt | .synLf | .synLr | .synLt
  | .keyIdle | .keyDrop | .keyRowMiss | .keyRowHit | .keyColMiss | .keyColUnused | .keyColDigit
  | .keyWait | .dspLoad _ | .dspEn _ => true

/-- A selector word that matches none of R92's five reserved patterns. -/
def Sel.unreserved (w : Sel) : Bool :=
  !(w &&& 0xEC == 0x4C || w &&& 0xEC == 0x6C || w &&& 0xE0 == 0xA0 || w &&& 0xE0 == 0xC0 || w &&& 0xE0 == 0xE0)

/-- Every item of R96 is well formed; the model's own item is when its selector is not reserved. -/
def TraceItem.wellFormed : TraceItem → Bool
  | .event _ => true
  | .keys _ => true
  | .selector w => Sel.unreserved w

end Sys2Proof
end

