-- ==== Sys2Proof/Decode.lean ====
section
/-!
DEFINITION. The bit layouts of spec/30_encoding.md: the data formats of R81, the table of R89 and R92 as a
list of rows, the decoder from a selector word to an operation, and the encoder back to the canonical
selector word.

Decoding is total on any list of bytes and rejects by name (`DecodeError`). A selector is one byte (R88,
R95: "every operation has the one fixed 8-bit selector format").
-/

namespace Sys2Proof

/-! ## Data formats (R81) -/

/-- `ActiveFlag`, `H`, `NZ` and the other one-bit fields: 1 = true. -/
def bit (b : Bool) : BitVec 1 := if b then 1 else 0

/-- A digit as its 4-bit binary value (R81, R82). -/
def Digit.code (d : Digit) : BitVec 4 := BitVec.ofNat 4 d.val

/-- The digit a 4-bit code stands for; 10..15 are reserved (R91). -/
def Digit.ofCode (c : BitVec 4) : Option Digit :=
  if h : c.toNat < 10 then some ⟨c.toNat, h⟩ else none

/-- DigitBuffer packed in one word: `D[0]` in bits 15:12 (R64, R81). -/
def DigitBuffer.packed (d : DigitBuffer) : BitVec 16 :=
  Digit.code d.d0 ++ Digit.code d.d1 ++ Digit.code d.d2 ++ Digit.code d.d3

/-- DigitBuffer read back from its packed form; none where a digit's code is reserved (R91). -/
def DigitBuffer.ofPacked (w : BitVec 16) : Option DigitBuffer :=
  (Digit.ofCode (w.extractLsb' 12 4)).bind fun a =>
  (Digit.ofCode (w.extractLsb' 8 4)).bind fun b =>
  (Digit.ofCode (w.extractLsb' 4 4)).bind fun c =>
  (Digit.ofCode (w.extractLsb' 0 4)).map fun d => ⟨a, b, c, d⟩

/-- A key position as 4 bits: row in bits 3:2, column in bits 1:0 (R81). -/
def keyPosCode (r : KeyRow) (c : KeyCol) : BitVec 4 :=
  BitVec.ofNat 2 r.val ++ BitVec.ofNat 2 c.val

/-- The key position a 4-bit code stands for; column 3 is reserved (R92). -/
def keyPosOfCode (w : BitVec 4) : Option (KeyRow × KeyCol) :=
  if h : (w.extractLsb' 0 2).toNat < 3 then some (⟨(w.extractLsb' 2 2).toNat, (w.extractLsb' 2 2).isLt⟩, ⟨_, h⟩)
  else none

/-- A `KEYMAP` entry as 5 bits: bit 4 = the position yields a digit, bits 3:0 = the digit (R81). DESIGN CHOICE,
notes/assumptions/25.md: R81 gives bits 3:0 of an unused position (valid = 0) no value; they are coded 0. -/
def keyMapEntryCode : Option Digit → BitVec 5
  | none => 0
  | some d => (1 : BitVec 1) ++ Digit.code d

/-- 0 = FULL, 1 = TRIM (R23, R81). -/
def ChunkKind.code : ChunkKind → BitVec 1
  | .full => 0
  | .trim => 1

/-- 0 = IDLE, 1 = SHORT, 2 = LONG (R24, R81). -/
def Mode.code : Mode → BitVec 2
  | .idle => 0
  | .short => 1
  | .long => 2

/-- The mode a 2-bit code stands for; 3 is reserved (R92). -/
def Mode.ofCode (c : BitVec 2) : Option Mode :=
  match c.toNat with
  | 0 => some .idle
  | 1 => some .short
  | 2 => some .long
  | _ => none

/-- 0 = ROWS, 1 = COLS, 2 = DEBOUNCE (R29, R81). -/
def KeyState.code : KeyState → BitVec 2
  | .rows => 0
  | .cols => 1
  | .debounce => 2

/-- The state of the keypad path a 2-bit code stands for; 3 is reserved (R92). -/
def KeyState.ofCode (c : BitVec 2) : Option KeyState :=
  match c.toNat with
  | 0 => some .rows
  | 1 => some .cols
  | 2 => some .debounce
  | _ => none

/-- 0 = LOAD_SEGMENTS, 1 = ENABLE_DIGIT (R31, R81). -/
def Phase.code : Phase → BitVec 1
  | .loadSegments => 0
  | .enableDigit => 1

/-- `trimReloadValue` as 17 bits; bit 16 is set only for the value `TIMER_RANGE` = 65536 (R81, R94). -/
def trimReloadCode (r : Nat) : BitVec 17 := BitVec.ofNat 17 r

/-- A timer count as 16 bits (R81). -/
def timerCountCode (c : Nat) : BitVec 16 := BitVec.ofNat 16 c

/-- `SEL[7:5]` of an event class (R88). -/
def EventClass.code : EventClass → BitVec 3
  | .cnt => 0
  | .ctl => 1
  | .syn => 2
  | .key => 3
  | .dsp => 4

/-! ## The table (R89, R92) -/

/-- One row of the operation table: `SEL` matches when `SEL &&& mask = value`. -/
structure Row where
  mask : Sel
  value : Sel
  make : Sel → Instr

/-- The field `ii` of the class DSP: bits 1:0 (R89, R90). -/
def fieldIi (w : Sel) : Position := (w.extractLsb' 0 2).toFin

/-- The classes CNT and CTL of R89. -/
def rowsCntCtl : List Row :=
  [ ⟨0xE0, 0x00, fun _ => .cnt⟩,        -- 000xxxxx
    ⟨0xF8, 0x28, fun _ => .actZ⟩,       -- 00101xxx
    ⟨0xFC, 0x20, fun _ => .actS⟩,       -- 001000xx
    ⟨0xFC, 0x24, fun _ => .actL⟩,       -- 001001xx
    ⟨0xF0, 0x30, fun _ => .deact⟩ ]     -- 0011xxxx

/-- The class SYN of R89. -/
def rowsSyn : List Row :=
  [ ⟨0xEC, 0x40, fun _ => .synNop⟩,     -- 010x00xx
    ⟨0xEC, 0x44, fun _ => .synSt⟩,      -- 010x01xx
    ⟨0xEF, 0x49, fun _ => .synLf⟩,      -- 010x1001
    ⟨0xEF, 0x48, fun _ => .synLr⟩,      -- 010x1000
    ⟨0xEE, 0x4A, fun _ => .synLt⟩ ]     -- 010x101x

/-- The class KEY of R89. -/
def rowsKey : List Row :=
  [ ⟨0xFC, 0x70, fun _ => .keyIdle⟩,    -- 011100xx
    ⟨0xFC, 0x74, fun _ => .keyDrop⟩,    -- 011101xx
    ⟨0xFE, 0x60, fun _ => .keyRowMiss⟩, -- 0110000x
    ⟨0xFE, 0x62, fun _ => .keyRowHit⟩,  -- 0110001x
    ⟨0xFE, 0x64, fun _ => .keyColMiss⟩, -- 0110010x
    ⟨0xFF, 0x66, fun _ => .keyColUnused⟩, -- 01100110
    ⟨0xFF, 0x67, fun _ => .keyColDigit⟩, -- 01100111
    ⟨0xEC, 0x68, fun _ => .keyWait⟩ ]   -- 011x10xx

/-- The class DSP of R89. -/
def rowsDsp : List Row :=
  [ ⟨0xE4, 0x80, fun w => .dspLoad (fieldIi w)⟩, -- 100xx0ii
    ⟨0xE4, 0x84, fun w => .dspEn (fieldIi w)⟩ ]  -- 100xx1ii

/-- The reserved patterns of R92. -/
def rowsReserved : List Row :=
  [ ⟨0xEC, 0x4C, fun _ => .reservedSyn⟩, -- 010x11xx
    ⟨0xEC, 0x6C, fun _ => .reservedKey⟩, -- 011x11xx
    ⟨0xE0, 0xA0, fun _ => .reservedEv5⟩, -- 101xxxxx
    ⟨0xE0, 0xC0, fun _ => .reservedEv6⟩, -- 110xxxxx
    ⟨0xE0, 0xE0, fun _ => .reservedEv7⟩ ] -- 111xxxxx

/-- The whole table: twenty operations and five reserved rows. -/
def table : List Row := rowsCntCtl ++ rowsSyn ++ rowsKey ++ rowsDsp ++ rowsReserved

/-- Whether a selector word matches a row. -/
def Row.hits (w : Sel) (row : Row) : Bool := w &&& row.mask == row.value

/-- The operation a selector word selects: the row it matches. Every word matches exactly one row (R89,
R92), so `none` never occurs. -/
def decodeSel (w : Sel) : Option Instr := (table.find? (Row.hits w)).map fun row => row.make w

/-- Why bytes are no selector. -/
inductive DecodeError where
  /-- no byte is left: a selector word is one byte (R88). -/
  | noByte
  /-- the byte matches no row of the table; R89 and R92 together leave no such byte. -/
  | noRow (w : Sel)
deriving DecidableEq, Repr

/-- Decoding a list of bytes: the operation of the first byte and the bytes left. -/
def decode : List (BitVec 8) → Except DecodeError (Instr × List (BitVec 8))
  | [] => .error .noByte
  | w :: rest =>
    match decodeSel w with
    | some i => .ok (i, rest)
    | none => .error (.noRow w)

/-- The operation the decoder reads from a row's word of `nbits` bits, numbered as spec/opcode_table.json
numbers them. A selector is one byte: any other width, and a number that does not fit in it, is refused. -/
def decodeTableWord (nbits w : Nat) : Option Instr :=
  if nbits = 8 ∧ w < 256 then
    match decode [BitVec.ofNat 8 w] with
    | .ok (i, []) => some i
    | _ => none
  else none

/-! ## The encoder -/

/-- The canonical selector of an operation: the "canonical SEL" column of R89 (the value R90 forms; for
`KEY.WAIT` the inactive one), and for a reserved row its match value. -/
def encodeSel : Instr → Sel
  | .cnt => 0x00
  | .actZ => 0x28
  | .actS => 0x20
  | .actL => 0x24
  | .deact => 0x30
  | .synNop => 0x40
  | .synSt => 0x46
  | .synLf => 0x49
  | .synLr => 0x48
  | .synLt => 0x4A
  | .keyIdle => 0x70
  | .keyDrop => 0x74
  | .keyRowMiss => 0x60
  | .keyRowHit => 0x62
  | .keyColMiss => 0x64
  | .keyColUnused => 0x66
  | .keyColDigit => 0x67
  | .keyWait => 0x68
  | .dspLoad ii => 0x80 + BitVec.ofNat 8 ii.val
  | .dspEn ii => 0x84 + BitVec.ofNat 8 ii.val
  | .reservedSyn => 0x4C
  | .reservedKey => 0x6C
  | .reservedEv5 => 0xA0
  | .reservedEv6 => 0xC0
  | .reservedEv7 => 0xE0

/-- The bytes of an operation's selector. -/
def encode (i : Instr) : List (BitVec 8) := [encodeSel i]

end Sys2Proof
end

