-- ==== Sys2Proof/Machine/State.lean ====
section
/-!
DEFINITION. The state of the block (R20, "the complete state of the block is the following list and nothing
else"), the reasons a step can stop, and the state after reset (R44).

After R20's elements come the model's own fields, which are no state of the block: the configuration it is
built with (R45), the ghost time (R9), the key lines as they stand (R10, R45), the trace still to be played
(R96), and a counter for the free choices of the environment.
-/

namespace Sys2Proof.Machine

/-- The state: R20's list, then the model's own fields. -/
structure State where
  /-- DigitBuffer, `D[0..3]` (R21). -/
  d : DigitBuffer
  /-- `ActiveFlag` (R22). -/
  activeFlag : Bool
  /-- `chunkKind` (R23). -/
  chunkKind : ChunkKind
  /-- `remainingFullChunks` (R23), `CHAIN_BITS` bits; a natural number as R121 asks. -/
  remainingFullChunks : Nat
  /-- `trimReloadValue` (R23), 0 .. `TIMER_RANGE`. -/
  trimReloadValue : Nat
  /-- `mode` (R24). -/
  mode : Mode
  /-- `chainCount` (R25), `CHAIN_BITS` bits; a natural number as R121 asks. -/
  chainCount : Nat
  /-- `out`, the output line (R26). -/
  out : Bool
  /-- `ind`, the indicator line (R26). -/
  ind : Bool
  /-- `KS` (R29). -/
  ks : KeyState
  /-- `rowLatch` (R29), 2 bits. -/
  rowLatch : KeyRow
  /-- `debLeft` (R30), 3 bits. -/
  debLeft : BitVec 3
  /-- `activeDigitIndex` (R31), 2 bits. -/
  activeDigitIndex : Position
  /-- `phase` (R31). -/
  phase : Phase
  /-- `digit_en[3:0]` (R31). -/
  digitEn : BitVec 4
  /-- `seg[7:0]` (R31). -/
  seg : BitVec 8
  /-- `T_SYN` (R37, R43): count and run bit. -/
  tSyn : Channel
  /-- `T_DEB` (R37, R43): count and run bit. -/
  tDeb : Channel
  /-- `T_DISP.cnt` (R43); `T_DISP` has no run bit. -/
  tDispCnt : Nat
  /-- `tf_syn` (R35). -/
  tfSyn : Bool
  /-- `tf_disp` (R35). -/
  tfDisp : Bool
  /-- MODEL'S OWN: the parameters the block is built with (R5, R45). No operation writes it. -/
  cfg : Config
  /-- MODEL'S OWN: the ghost time `t` (R9, R45), the number of `CNT` operations since reset. No operation
  reads it. -/
  t : Nat
  /-- MODEL'S OWN: the key lines as the environment holds them now, `pressed(t)` (R10, R45). No operation
  writes it. -/
  pressed : KeyMatrix
  /-- MODEL'S OWN: the trace items still to be played (R96). No operation reads or writes it. -/
  trace : List TraceItem
  /-- MODEL'S OWN: how many of the environment's free choices have been used. -/
  envCount : Nat
deriving DecidableEq, Repr

/-- Why the machine stops with a fault. The operations of R89 never fault (R221). -/
inductive Fault where
  /-- Raised by the five reserved rows, and by a selector that decodes to nothing: "the `SEL` patterns …
  select no operation", "an event with such a `SEL` has no step (the agent is stuck)" (R92,
  spec/93_implementation_defined.md U5). Safe: it "errs toward unprovable". -/
  | stuckReservedSelector
deriving DecidableEq, Repr

/-- Why a meaning answers nothing. -/
inductive Refusal where
  /-- The operation has no meaning in this model yet. Raised by no meaning. -/
  | notModelled (mnemonic : String)
  /-- The event is not enabled: class SYN with `tf_syn` = 0, class DSP with `tf_disp` = 0, class CNT with a
  pending flag set (R224); a trace with such an item "is ill-formed; it does not mean skip" (R96). Raised by
  the operations of the classes CNT, SYN and DSP. Safe: the spec gives no step there. -/
  | notEnabled
  /-- The operation is not the one `SEL` selects in this state (R88 to R90, the "selected when" column of
  R89). Raised by every operation that has a selection condition, and never by an event of a trace, whose
  operation is the selected one. Safe: the spec gives no step there. -/
  | notSelected
  /-- A pseudo-item of the trace notation stands where its condition does not hold: `enter` while active or with
  `KS` other than ROWS (R97); the trace "is ill-formed; it does not mean skip" (R96). Raised by the notation of
  Machine/Trace.lean, by no operation and no step. Safe: the spec gives no such trace a meaning. -/
  | illFormedItem
deriving DecidableEq, Repr

/-- No key held down. -/
def noKeys : KeyMatrix :=
  ⟨⟨false, false, false⟩, ⟨false, false, false⟩, ⟨false, false, false⟩, ⟨false, false, false⟩⟩

/-- The reset table of R44, for the parameters `c`. The model's own fields start with no key held (only a
value for the field: the first event of the environment brings its own keys), no trace and no choice used. -/
def State.resetWith (c : Config) : State where
  d := c.digitInit
  activeFlag := false
  chunkKind := .full
  remainingFullChunks := 0
  trimReloadValue := 0
  mode := .idle
  chainCount := 0
  out := false
  ind := false
  ks := .rows
  rowLatch := 0
  debLeft := 0
  activeDigitIndex := 0
  phase := .loadSegments
  digitEn := 0
  seg := c.segBlank
  tSyn := ⟨0, false⟩
  tDeb := ⟨0, false⟩
  tDispCnt := 0
  tfSyn := false
  tfDisp := false
  cfg := c
  t := 0
  pressed := noKeys
  trace := []
  envCount := 0

/-- The machine right after reset (R44, R260), with the parameters of this hardware. -/
def State.reset : State := State.resetWith Config.platform.config

end Sys2Proof.Machine
end

