-- ==== Sys2Proof/Machine/Operands.lean ====
section
/-!
DEFINITION. The operands of the operations: the three index spaces `DIGIT`, `SEG`, `KEY` (R60 to R63, the
`MemRead` of R8), the frequency and the half-period the decomposer computes (R83, R110, R113, R114), the row
and the key a scan finds (R163, R166).

No read has a side effect (R68); no index can be out of range (R65).
-/

namespace Sys2Proof

/-! ## The index spaces -/

/-- `MemRead(DIGIT, i)`, `D[i]` (R8, R61). -/
def DigitBuffer.read (d : DigitBuffer) (i : Position) : Digit :=
  match i with
  | 0 => d.d0
  | 1 => d.d1
  | 2 => d.d2
  | 3 => d.d3

/-- `MemRead(SEG, v)` (R8, R62). -/
def SegTable.read (t : SegTable) (v : Digit) : BitVec 8 :=
  match v with
  | 0 => t.s0
  | 1 => t.s1
  | 2 => t.s2
  | 3 => t.s3
  | 4 => t.s4
  | 5 => t.s5
  | 6 => t.s6
  | 7 => t.s7
  | 8 => t.s8
  | 9 => t.s9

/-- One entry of a row by its column. -/
def Triple.read {α : Type} (t : Triple α) (c : KeyCol) : α :=
  match c with
  | 0 => t.c0
  | 1 => t.c1
  | 2 => t.c2

/-- One row of a grid. -/
def Grid.row {α : Type} (g : Grid α) (r : KeyRow) : Triple α :=
  match r with
  | 0 => g.r0
  | 1 => g.r1
  | 2 => g.r2
  | 3 => g.r3

/-- The entry at a key position: `pressed(t)(r, c)` of R10, and `MemRead(KEY, (r, c))` of R63. -/
def Grid.read {α : Type} (g : Grid α) (r : KeyRow) (c : KeyCol) : α := (g.row r).read c

/-! ## The frequency and the half-period -/

/-- `f = 1000*D[0] + 100*D[1] + 10*D[2] + D[3]` (R83, R110). -/
def frequency (d : DigitBuffer) : Nat :=
  1000 * d.d0.val + 100 * d.d1.val + 10 * d.d2.val + d.d3.val

/-- `floor(500000 / (f * CYCLE_US))`, the exact quotient rounded down once (R113, R114): with `CYCLE_US` =
p/q it is `500000*q div (f*p)`. Only asked for `f` > 0. -/
def rawHalfPeriod (p : Params) (f : Nat) : Nat := 500000 * p.cycleDen / (f * p.cycleNum)

/-- `h = max(0, floor(500000 / (f * CYCLE_US)) - OVERHEAD)` (R113): the subtraction is on integers and its
result is clamped to 0. -/
def halfPeriod (p : Params) (f : Nat) : Nat :=
  ((rawHalfPeriod p f : Int) - (p.overhead : Int)).toNat

/-! ## The scan -/

/-- Row `r` "reports a pressed condition" when some key of it is down (R163). -/
def rowReports (m : KeyMatrix) (r : KeyRow) : Bool :=
  m.read r 0 || m.read r 1 || m.read r 2

/-- Phase 1 (R163): the lowest row that reports. -/
def rowFound (m : KeyMatrix) : Option KeyRow :=
  if rowReports m 0 then some 0
  else if rowReports m 1 then some 1
  else if rowReports m 2 then some 2
  else if rowReports m 3 then some 3
  else none

/-- Phase 2 (R166): `c*`, the lowest column down in the latched row. -/
def colFound (m : KeyMatrix) (r : KeyRow) : Option KeyCol :=
  if m.read r 0 then some 0
  else if m.read r 1 then some 1
  else if m.read r 2 then some 2
  else none

/-- `KEYMAP(rowLatch, c*)` when a key is found and its position yields a digit (R63, R169). -/
def digitFound (k : KeyMap) (m : KeyMatrix) (r : KeyRow) : Option Digit :=
  match colFound m r with
  | some c => k.read r c
  | none => none

/-- How many keys are held down. -/
def keysDown (m : KeyMatrix) : Nat := (m.entries.filter id).length

end Sys2Proof
end

