-- ==== Sys2Proof/Machine/Flags.lean ====
section
/-!
DEFINITION. The flags of R34 and the condition bits of the selector word (R90).

The block has no arithmetic condition codes (R34). Its flags are `ActiveFlag`, the lines `out` and `ind`, the
pending flags `tf_syn` and `tf_disp` and the two run bits; each is set and cleared only by the operations
R34 lists, through the operations on the state below. What an ISA computes as flags from operands is here the
condition part of `SEL`: the bits `Z`, `L`, `NZ`, `H`, `G` of R90.
-/

namespace Sys2Proof.Machine

/-! ## Flags and lines (R34) -/

/-- `tf_syn <- 0` (R136). -/
def clearTfSyn (s : State) : State := { s with tfSyn := false }

/-- `tf_disp <- 0` (R191). -/
def clearTfDisp (s : State) : State := { s with tfDisp := false }

/-- `out <- not out; ind <- not ind` (R26, R140, R145). -/
def toggleLines (s : State) : State := { s with out := !s.out, ind := !s.ind }

/-- `out <- 0; ind <- 0` (R26, R206). -/
def linesLow (s : State) : State := { s with out := false, ind := false }

/-- `ActiveFlag <- b` (R22). -/
def setActive (b : Bool) (s : State) : State := { s with activeFlag := b }

/-! ## The condition bits of the selector (R90) -/

/-- `Z`: 1 if `A` = 0 and `f` = 0. -/
def selZ (s : State) : Bool := !s.activeFlag && decide (frequency s.d = 0)

/-- `L`: 1 if `A` = 0 and `f` is not 0 and `h` > `TIMER_RANGE` (R115: strictly greater). -/
def selL (s : State) : Bool :=
  !s.activeFlag && decide (frequency s.d ≠ 0) &&
    decide (s.cfg.timerRange < halfPeriod s.cfg.toParams (frequency s.d))

/-- `NZ`: 1 if `remainingFullChunks` > 0. -/
def selNZ (s : State) : Bool := decide (0 < s.remainingFullChunks)

/-- `H`: for `A` = 0, with `KS` = ROWS whether some key is down, with `KS` = COLS whether some key of row
`rowLatch` is down; otherwise 0. -/
def selH (s : State) : Bool :=
  !s.activeFlag &&
    match s.ks with
    | .rows => rowReports s.pressed 0 || rowReports s.pressed 1 || rowReports s.pressed 2 || rowReports s.pressed 3
    | .cols => rowReports s.pressed s.rowLatch
    | .debounce => false

/-- `G`: 1 if `A` = 0, `KS` = COLS, `H` = 1 and `KEYMAP(rowLatch, c*)` is a digit; otherwise 0. -/
def selG (s : State) : Bool :=
  !s.activeFlag && s.ks == .cols && selH s && (digitFound s.cfg.keyMap s.pressed s.rowLatch).isSome

/-! ## The selector word (R88, R90) -/

/-- `SEL[4:0]` of an event of class `c` (R90); bits the class does not use are 0. -/
def selLow (c : EventClass) (s : State) : BitVec 5 :=
  match c with
  | .cnt => 0
  | .ctl => bit s.activeFlag ++ bit (selZ s) ++ bit (selL s) ++ (0 : BitVec 2)
  | .syn => (0 : BitVec 1) ++ Mode.code s.mode ++ ChunkKind.code s.chunkKind ++ bit (selNZ s)
  | .key => bit s.activeFlag ++ KeyState.code s.ks ++ bit (selH s) ++ bit (selG s)
  | .dsp => (0 : BitVec 2) ++ Phase.code s.phase ++ BitVec.ofNat 2 s.activeDigitIndex.val

/-- `SEL`, "computed afresh for every event and stored nowhere" (R88). -/
def formSel (c : EventClass) (s : State) : Sel := EventClass.code c ++ selLow c s

/-! ## Which classes are enabled (R224) -/

/-- Whether an event of class `c` may occur next (R224): CTL and KEY always, SYN if `tf_syn` = 1, DSP if
`tf_disp` = 1, CNT if both are 0. -/
def enabled (c : EventClass) (s : State) : Bool :=
  match c with
  | .ctl => true
  | .key => true
  | .syn => s.tfSyn
  | .dsp => s.tfDisp
  | .cnt => !s.tfSyn && !s.tfDisp

/-- The classes enabled in a state. -/
def enabledClasses (s : State) : List EventClass :=
  [EventClass.ctl, .key, .syn, .dsp, .cnt].filter fun c => enabled c s

end Sys2Proof.Machine
end

