-- ==== Sys2Proof/Machine/Ops.lean ====
section
/-!
DEFINITION. The shared operations of the block: the commands of a timer channel (R38 to R41), the writes of
DigitBuffer (R170, R206), the plan of an activation (R112, R116, R117), the counts of `CNT` (R131 to R133),
and `perform`, the one way a meaning answers.

There is no operation for taking an exception or returning from one because the block has neither: "The block
has no synchronous exception, no cause code, no cause register" (R220), "There is no return operation" (R227),
"there is one level, one core, and no trap" (R232). The conditions it notes instead stand in
Machine/Conditions.lean. There is no memory beyond the index spaces of Machine/Operands.lean (R60, R69, R74).
-/

namespace Sys2Proof

/-! ## Timer channels -/

/-- The count `T.configure(r)` stores (R38): `r` itself, and for the degenerate `r` = `TIMER_RANGE` the count
that makes the chunk `ZERO_CHUNK_CYCLES` long. -/
def reloadCount (p : Params) (r : Nat) : Nat :=
  if r < p.timerRange then r else p.timerRange - p.zeroChunkCycles

/-- `T.configure(r)` (R38): the count, and nothing else of the channel. -/
def Channel.configure (p : Params) (r : Nat) (c : Channel) : Channel := { c with cnt := reloadCount p r }

/-- `T.start()` (R39). -/
def Channel.start (c : Channel) : Channel := { c with run := true }

/-- `T.stop()` (R40). -/
def Channel.stop (c : Channel) : Channel := { c with run := false }

/-- Whether the next count of a channel of the given modulus completes (R41). -/
def Channel.completes (modulus : Nat) (c : Channel) : Bool := c.run && decide (c.cnt = modulus - 1)

/-- One count of a channel (R41): a stopped channel keeps its count, a running one counts up and wraps. -/
def Channel.count (modulus : Nat) (c : Channel) : Channel :=
  if c.run then { c with cnt := if c.cnt = modulus - 1 then 0 else c.cnt + 1 } else c

/-! ## DigitBuffer -/

/-- The shift of R170: every digit one position toward index 0, the new digit at index 3, the old `D[0]` lost;
one register transfer (R66). -/
def DigitBuffer.shiftIn (v : Digit) (d : DigitBuffer) : DigitBuffer := ⟨d.d1, d.d2, d.d3, v⟩

/-- All four digits 0 (R206). -/
def DigitBuffer.zero : DigitBuffer := ⟨0, 0, 0, 0⟩

/-! ## The plan of an activation -/

/-- What an activation writes for the output-toggle generator: `mode`, `chunkKind`, `N` (kept in `chainCount`
and `remainingFullChunks`) and `trimReloadValue`. -/
structure Plan where
  mode : Mode
  kind : ChunkKind
  chain : Nat
  trim : Nat
deriving DecidableEq, Repr

/-- The plan that leaves the engine idle (R112, R206). -/
def Plan.idle : Plan := ⟨.idle, .full, 0, 0⟩

/-- The plan of SHORT mode for the half-period `h` <= `TIMER_RANGE` (R116). -/
def Plan.short (p : Params) (h : Nat) : Plan := ⟨.short, .trim, 0, p.timerRange - h⟩

/-- The chain count `N = (h div TIMER_RANGE) - 1` (R117), for `h` > `TIMER_RANGE`. -/
def chainOf (p : Params) (h : Nat) : Nat := h / p.timerRange - 1

/-- The plan of LONG mode for the half-period `h` > `TIMER_RANGE` (R117):
`trimReloadValue = TIMER_RANGE - (h - (N+1)*TIMER_RANGE)`. -/
def Plan.long (p : Params) (h : Nat) : Plan :=
  ⟨.long, .full, chainOf p h, p.timerRange - (h - (chainOf p h + 1) * p.timerRange)⟩

namespace Machine

/-- Writing a plan: "overwrites all of ChunkState" (R124). -/
def writePlan (pl : Plan) (s : State) : State :=
  { s with mode := pl.mode, chunkKind := pl.kind, remainingFullChunks := pl.chain, chainCount := pl.chain,
           trimReloadValue := pl.trim }

/-- `T_SYN.configure(r)` (R38, R43). -/
def configureSyn (r : Nat) (s : State) : State := { s with tSyn := s.tSyn.configure s.cfg.toParams r }

/-- `T_SYN.start()` (R39, R43). -/
def startSyn (s : State) : State := { s with tSyn := s.tSyn.start }

/-- `T_SYN.stop()` (R40, R43). -/
def stopSyn (s : State) : State := { s with tSyn := s.tSyn.stop }

/-- `debLeft <- DEBOUNCE_SPANS; T_DEB.configure(0); T_DEB.start(); KS <- DEBOUNCE` (R169, R172). -/
def startDebounce (s : State) : State :=
  { s with debLeft := Config.debounceSpans, tDeb := (s.tDeb.configure s.cfg.toParams 0).start, ks := .debounce }

/-! ## Counting -/

/-- Counting `T_SYN` inside `CNT` (R131): a completion sets `tf_syn`. -/
def countSyn (s : State) : State :=
  { s with tSyn := s.tSyn.count s.cfg.timerRange,
           tfSyn := if s.tSyn.completes s.cfg.timerRange then true else s.tfSyn }

/-- Whether this count ends the debounce wait: it completes a span and the decremented `debLeft` is 0 (R132:
"the test `debLeft = 0` reads the decremented value"). -/
def debounceEnds (s : State) : Bool :=
  s.tDeb.completes s.cfg.timerRange && decide (s.debLeft - 1 = 0)

/-- Counting `T_DEB` inside `CNT` (R132): a completion decrements `debLeft`, and the one that makes it 0 stops
`T_DEB` and sets `KS` back to ROWS. `debLeft` is a 3-bit register (R30); a completion with `debLeft` = 0 does
not occur (I7 of R33). -/
def countDeb (s : State) : State :=
  { s with tDeb := if debounceEnds s then (s.tDeb.count s.cfg.timerRange).stop else s.tDeb.count s.cfg.timerRange,
           debLeft := if s.tDeb.completes s.cfg.timerRange then s.debLeft - 1 else s.debLeft,
           ks := if debounceEnds s then .rows else s.ks }

/-- Whether this count is a display tick (R133). -/
def displayTicks (s : State) : Bool := decide (s.tDispCnt = s.cfg.dispPeriod - 1)

/-- Counting `T_DISP` inside `CNT` (R133): it always runs, its modulus is `DISP_PERIOD`. -/
def countDisp (s : State) : State :=
  { s with tDispCnt := if displayTicks s then 0 else s.tDispCnt + 1,
           tfDisp := if displayTicks s then true else s.tfDisp }

/-! ## Answering -/

/-- How every operation answers: it takes its effect when its class is enabled (R224) and it is the operation
selected in the state (R89); otherwise the spec gives it no step, and it refuses by name (R96). -/
def perform (isEnabled isSelected : Bool) (after : State) : Host.Outcome State Fault Refusal :=
  if isEnabled then
    if isSelected then .next after else .refused .notSelected
  else .refused .notEnabled

/-! ## A reset input -/

/-- R262: a platform's reset input "puts every piece of state into the reset values of R44 at once". The
parameters, and what belongs to the environment (its keys, the trace, its choices), stay. -/
def assertReset (s : State) : State :=
  { State.resetWith s.cfg with pressed := s.pressed, trace := s.trace, envCount := s.envCount }

end Machine
end Sys2Proof
end

