-- ==== Sys2Proof/Machine/Cnt.lean ====
section
/-! DEFINITION. Counting: the operation `CNT` (spec/41_toggle_generator.md section 1). -/

namespace Sys2Proof.Machine

/-- The effect of `CNT` (R130): the ghost time advances and the three channels count; "the three counts are
independent (they touch disjoint state) and happen together". -/
def cntEffect (s : State) : State := countDisp (countDeb (countSyn { s with t := s.t + 1 }))

/-- `CNT` (R130): enabled only when `tf_syn` = 0 and `tf_disp` = 0. -/
def execCnt (s : State) : Host.Outcome State Fault Refusal := perform (enabled .cnt s) true (cntEffect s)

end Sys2Proof.Machine
end

