-- ==== Sys2Proof/Machine/Ctl.lean ====
section
/-!
DEFINITION. The control edge: the activations `ACT.Z`, `ACT.S`, `ACT.L` (spec/40_decomposer.md) and `DEACT`
(spec/44_control_toggle.md). A CTL operation is enabled in every state (R203); which one it is follows from
`ActiveFlag`, `f` and `h` (R201).
-/

namespace Sys2Proof.Machine

/-- The frequency the digits stand for now (R110). -/
def freqNow (s : State) : Nat := frequency s.d

/-- The half-period of that frequency (R113); only asked for `f` not 0. -/
def halfNow (s : State) : Nat := halfPeriod s.cfg.toParams (freqNow s)

/-- The part common to the three activations (R124): `ActiveFlag <- 1`, all of ChunkState overwritten. -/
def activate (pl : Plan) (s : State) : State := writePlan pl (setActive true s)

/-- `ACT.Z` (R112): selected when inactive and `f` = 0. `T_SYN` is neither configured nor started. -/
def execActZ (s : State) : Host.Outcome State Fault Refusal :=
  perform (enabled .ctl s) (!s.activeFlag && decide (freqNow s = 0)) (activate Plan.idle s)

/-- `ACT.S` (R116): selected when inactive, `f` not 0 and `h` <= `TIMER_RANGE` (R115). -/
def execActS (s : State) : Host.Outcome State Fault Refusal :=
  perform (enabled .ctl s)
    (!s.activeFlag && decide (freqNow s ≠ 0) && decide (halfNow s ≤ s.cfg.timerRange))
    (let pl := Plan.short s.cfg.toParams (halfNow s)
     startSyn (configureSyn pl.trim (activate pl s)))

/-- `ACT.L` (R117): selected when inactive, `f` not 0 and `h` > `TIMER_RANGE`; starts a FULL chunk. -/
def execActL (s : State) : Host.Outcome State Fault Refusal :=
  perform (enabled .ctl s)
    (!s.activeFlag && decide (freqNow s ≠ 0) && decide (s.cfg.timerRange < halfNow s))
    (startSyn (configureSyn 0 (activate (Plan.long s.cfg.toParams (halfNow s)) s)))

/-- The effect of `DEACT` (R206): inactive, `T_SYN` stopped, a pending completion discarded, both lines low,
DigitBuffer all zero, the plan idle. -/
def deactEffect (s : State) : State :=
  writePlan Plan.idle { linesLow (clearTfSyn (stopSyn (setActive false s))) with d := DigitBuffer.zero }

/-- `DEACT` (R206): selected when active. -/
def execDeact (s : State) : Host.Outcome State Fault Refusal :=
  perform (enabled .ctl s) s.activeFlag (deactEffect s)

end Sys2Proof.Machine
end

