-- ==== Sys2Proof/Machine/Dsp.lean ====
section
/-!
DEFINITION. The display refresher: the two operations of class DSP (spec/43_display_refresher.md). Each is
enabled exactly when `tf_disp` = 1 and begins with `tf_disp <- 0` (R191). The field `ii` of the selector is
`activeDigitIndex` (R192, R193), so an operation with another `ii` is not the one selected.
-/

namespace Sys2Proof.Machine

/-- The enable bit of one digit position: bit `i` for position `i` (R31). -/
def enableBit (i : Position) : BitVec 4 := (1 : BitVec 4) <<< i.val

/-- `DSP.LOAD` (R192): selected in phase LOAD_SEGMENTS; all digits off, then the pattern of the digit in the
buffer on the segment bus. -/
def execDspLoad (ii : Position) (s : State) : Host.Outcome State Fault Refusal :=
  perform (enabled .dsp s) (s.phase == .loadSegments && ii == s.activeDigitIndex)
    { clearTfDisp s with
      digitEn := 0, seg := s.cfg.segTable.read (s.d.read s.activeDigitIndex), phase := .enableDigit }

/-- `DSP.EN` (R193): selected in phase ENABLE_DIGIT; that digit on, the index moves to the next position. -/
def execDspEn (ii : Position) (s : State) : Host.Outcome State Fault Refusal :=
  perform (enabled .dsp s) (s.phase == .enableDigit && ii == s.activeDigitIndex)
    { clearTfDisp s with
      digitEn := s.digitEn ||| enableBit s.activeDigitIndex,
      activeDigitIndex := s.activeDigitIndex + 1, phase := .loadSegments }

end Sys2Proof.Machine
end

