-- ==== Sys2Proof/Machine/Key.lean ====
section
/-!
DEFINITION. The keypad input path: the eight operations of class KEY (spec/42_keypad.md). A KEY operation is
always enabled (R179); each tests `ActiveFlag` in the same atomic step in which it acts (R160). The key
matrix is examined at the time of the step (R163, R166).
-/

namespace Sys2Proof.Machine

/-- Back to phase 1 of a scan: `KS <- ROWS`. -/
def backToRows (s : State) : State := { s with ks := .rows }

/-- `KEY.IDLE` (R161): selected when active with `KS` = ROWS; no state change. -/
def execKeyIdle (s : State) : Host.Outcome State Fault Refusal :=
  perform (enabled .key s) (s.activeFlag && s.ks == .rows) s

/-- `KEY.DROP` (R162): selected when active with `KS` = COLS; the scan is abandoned. -/
def execKeyDrop (s : State) : Host.Outcome State Fault Refusal :=
  perform (enabled .key s) (s.activeFlag && s.ks == .cols) (backToRows s)

/-- `KEY.ROW.MISS` (R164): selected when inactive, `KS` = ROWS and no key is down; no state change. -/
def execKeyRowMiss (s : State) : Host.Outcome State Fault Refusal :=
  perform (enabled .key s) (!s.activeFlag && s.ks == .rows && (rowFound s.pressed).isNone) s

/-- `KEY.ROW.HIT` (R165): selected when inactive, `KS` = ROWS and some key is down; the lowest row that
reports is latched. -/
def execKeyRowHit (s : State) : Host.Outcome State Fault Refusal :=
  match rowFound s.pressed with
  | some r => perform (enabled .key s) (!s.activeFlag && s.ks == .rows) { s with rowLatch := r, ks := .cols }
  | none => .refused .notSelected

/-- `KEY.COL.MISS` (R167): selected when inactive, `KS` = COLS and no key of the latched row is down. -/
def execKeyColMiss (s : State) : Host.Outcome State Fault Refusal :=
  perform (enabled .key s) (!s.activeFlag && s.ks == .cols && (colFound s.pressed s.rowLatch).isNone)
    (backToRows s)

/-- `KEY.COL.UNUSED` (R168): selected when inactive, `KS` = COLS and the key found is an unused position; no
shift and no debounce wait. -/
def execKeyColUnused (s : State) : Host.Outcome State Fault Refusal :=
  perform (enabled .key s)
    (!s.activeFlag && s.ks == .cols && (colFound s.pressed s.rowLatch).isSome &&
      (digitFound s.cfg.keyMap s.pressed s.rowLatch).isNone)
    (backToRows s)

/-- `KEY.COL.DIGIT` (R169): selected when inactive, `KS` = COLS and the key found yields a digit; the digit is
shifted in (R170) and the debounce wait starts (R172). -/
def execKeyColDigit (s : State) : Host.Outcome State Fault Refusal :=
  match digitFound s.cfg.keyMap s.pressed s.rowLatch with
  | some v =>
    perform (enabled .key s) (!s.activeFlag && s.ks == .cols)
      (startDebounce { s with d := s.d.shiftIn v })
  | none => .refused .notSelected

/-- `KEY.WAIT` (R174): selected during the debounce wait, active or not; no state change. -/
def execKeyWait (s : State) : Host.Outcome State Fault Refusal :=
  perform (enabled .key s) (s.ks == .debounce) s

end Sys2Proof.Machine
end

