-- ==== Sys2Proof/Machine/Reserved.lean ====
section
/-!
DEFINITION. The five reserved rows of spec/opcode_table.json (R92): they "select no operation", and "an event
with such a `SEL` has no step (the agent is stuck), which errs toward unprovable".
-/

namespace Sys2Proof.Machine

/-- A selector of R92 has no step. -/
def stuck (_s : State) : Host.Outcome State Fault Refusal := .fault .stuckReservedSelector

/-- `RESERVED` `010x11xx`: class SYN with `mode` = 3 (R92). -/
def execReservedSyn (s : State) : Host.Outcome State Fault Refusal := stuck s

/-- `RESERVED` `011x11xx`: class KEY with `KS` = 3 (R92). -/
def execReservedKey (s : State) : Host.Outcome State Fault Refusal := stuck s

/-- `RESERVED` `101xxxxx`: the class `EV` = 5 (R92). -/
def execReservedEv5 (s : State) : Host.Outcome State Fault Refusal := stuck s

/-- `RESERVED` `110xxxxx`: the class `EV` = 6 (R92). -/
def execReservedEv6 (s : State) : Host.Outcome State Fault Refusal := stuck s

/-- `RESERVED` `111xxxxx`: the class `EV` = 7 (R92). -/
def execReservedEv7 (s : State) : Host.Outcome State Fault Refusal := stuck s

end Sys2Proof.Machine
end

