-- ==== Sys2Proof/Machine/Syn.lean ====
section
/-!
DEFINITION. Completion handling: the five operations of class SYN (spec/41_toggle_generator.md section 2).
Each is enabled exactly when `tf_syn` = 1 (R135) and begins with `tf_syn <- 0` (R136).
-/

namespace Sys2Proof.Machine

/-- `SYN.NOP` (R137): selected in mode IDLE; "Nothing else changes". -/
def execSynNop (s : State) : Host.Outcome State Fault Refusal :=
  perform (enabled .syn s) (s.mode == .idle) (clearTfSyn s)

/-- `SYN.ST` (R140): selected in mode SHORT; toggles both lines and reloads the TRIM value. -/
def execSynSt (s : State) : Host.Outcome State Fault Refusal :=
  perform (enabled .syn s) (s.mode == .short)
    (configureSyn s.trimReloadValue (toggleLines (clearTfSyn s)))

/-- `SYN.LF` (R143): selected in mode LONG, `chunkKind` FULL, `remainingFullChunks` > 0; one FULL chunk less
to go, no reload. -/
def execSynLf (s : State) : Host.Outcome State Fault Refusal :=
  perform (enabled .syn s) (s.mode == .long && s.chunkKind == .full && selNZ s)
    { clearTfSyn s with remainingFullChunks := s.remainingFullChunks - 1 }

/-- `SYN.LR` (R144): selected in mode LONG, `chunkKind` FULL, `remainingFullChunks` = 0; loads the TRIM
chunk, does not toggle. -/
def execSynLr (s : State) : Host.Outcome State Fault Refusal :=
  perform (enabled .syn s) (s.mode == .long && s.chunkKind == .full && !selNZ s)
    { configureSyn s.trimReloadValue (clearTfSyn s) with chunkKind := .trim }

/-- `SYN.LT` (R145): selected in mode LONG, `chunkKind` TRIM; toggles both lines and starts the next
half-period. -/
def execSynLt (s : State) : Host.Outcome State Fault Refusal :=
  perform (enabled .syn s) (s.mode == .long && s.chunkKind == .trim)
    { configureSyn 0 (toggleLines (clearTfSyn s)) with
      remainingFullChunks := s.chainCount, chunkKind := .full }

end Sys2Proof.Machine
end

