-- ==== Sys2Proof/Machine/Dispatch.lean ====
section
/-! DEFINITION. Dispatch: one arm per operation, each one direct call of its meaning. -/

namespace Sys2Proof.Machine

def exec (i : Instr) (s : State) : Host.Outcome State Fault Refusal :=
  match i with
  | .cnt => Sys2Proof.Machine.execCnt s
  | .actZ => Sys2Proof.Machine.execActZ s
  | .actS => Sys2Proof.Machine.execActS s
  | .actL => Sys2Proof.Machine.execActL s
  | .deact => Sys2Proof.Machine.execDeact s
  | .synNop => Sys2Proof.Machine.execSynNop s
  | .synSt => Sys2Proof.Machine.execSynSt s
  | .synLf => Sys2Proof.Machine.execSynLf s
  | .synLr => Sys2Proof.Machine.execSynLr s
  | .synLt => Sys2Proof.Machine.execSynLt s
  | .keyIdle => Sys2Proof.Machine.execKeyIdle s
  | .keyDrop => Sys2Proof.Machine.execKeyDrop s
  | .keyRowMiss => Sys2Proof.Machine.execKeyRowMiss s
  | .keyRowHit => Sys2Proof.Machine.execKeyRowHit s
  | .keyColMiss => Sys2Proof.Machine.execKeyColMiss s
  | .keyColUnused => Sys2Proof.Machine.execKeyColUnused s
  | .keyColDigit => Sys2Proof.Machine.execKeyColDigit s
  | .keyWait => Sys2Proof.Machine.execKeyWait s
  | .dspLoad ii => Sys2Proof.Machine.execDspLoad ii s
  | .dspEn ii => Sys2Proof.Machine.execDspEn ii s
  | .reservedSyn => Sys2Proof.Machine.execReservedSyn s
  | .reservedKey => Sys2Proof.Machine.execReservedKey s
  | .reservedEv5 => Sys2Proof.Machine.execReservedEv5 s
  | .reservedEv6 => Sys2Proof.Machine.execReservedEv6 s
  | .reservedEv7 => Sys2Proof.Machine.execReservedEv7 s

end Sys2Proof.Machine
end

