-- ==== Sys2Proof/Machine/Events.lean ====
section
/-!
DEFINITION. From an event to its operation (R88 to R90), the trace items of R96, the schedule where no trace
is given (R224), and the aid that makes a given selector word the next one.
-/

namespace Sys2Proof.Machine

/-- Dispatch of a selector word: the operation it selects, or no step (R92). -/
def dispatch (w : Sel) (s : State) : Host.Outcome State Fault Refusal :=
  match decodeSel w with
  | some i => exec i s
  | none => .fault .stuckReservedSelector

/-- One event of class `c`: `SEL` is formed from the event and the state, and its operation performed. -/
def serve (c : EventClass) (s : State) : Host.Outcome State Fault Refusal := dispatch (formSel c s) s

/-- One trace item (R96). `keys` "is not an operation and changes no state of the block". -/
def playItem (item : TraceItem) (s : State) : Host.Outcome State Fault Refusal :=
  match item with
  | .event c => serve c s
  | .keys m => .next { s with pressed := m }
  | .selector w => dispatch w s

/-- The environment's next choice (R10, R224). -/
def nextChoice (s : State) : Choice := Config.environment s.envCount

/-- The class that choice picks: one of the classes enabled in the state, any of them (R224, R228). -/
def chosenClass (ch : Choice) (s : State) : EventClass :=
  (enabledClasses s).getD (ch.pick % (enabledClasses s).length) .key

/-- What happens next, and the state it happens in: the first item of the trace, and with no trace an event
the environment and the scheduler choose freely, with the keys it finds held down. -/
def fetch (s : State) : TraceItem × State :=
  match s.trace with
  | item :: rest => (item, { s with trace := rest })
  | [] => (.event (chosenClass (nextChoice s) s),
           { s with pressed := (nextChoice s).keys, envCount := s.envCount + 1 })

/-- Key (0,0) held down, and no other. -/
def keyTopLeft : KeyMatrix := { noKeys with r0 := ⟨true, false, false⟩ }

/-- Key (3,0) held down, and no other. -/
def keyBottomLeft : KeyMatrix := { noKeys with r3 := ⟨true, false, false⟩ }

/-- The state changed so that an operation is the enabled and selected one (the "selected when" column of
R89). Where the selection rests on the parameters (`ACT.S`, `ACT.L`, `KEY.COL.UNUSED`, `KEY.COL.DIGIT`) it
takes the example parameters of spec/95_test_vectors.md, for other parameters may select it in no state.
See notes/assumptions/7.md. -/
def makeSelected (i : Instr) (s : State) : State :=
  match i with
  | .cnt => { s with tfSyn := false, tfDisp := false }
  | .actZ => { s with activeFlag := false, d := DigitBuffer.zero }
  | .actS => { s with cfg := Config.example, activeFlag := false, d := ⟨0, 0, 0, 8⟩ }
  | .actL => { s with cfg := Config.example, activeFlag := false, d := ⟨0, 0, 0, 7⟩ }
  | .deact => { s with activeFlag := true }
  | .synNop => { s with tfSyn := true, mode := .idle }
  | .synSt => { s with tfSyn := true, mode := .short }
  | .synLf => { s with tfSyn := true, mode := .long, chunkKind := .full, remainingFullChunks := s.remainingFullChunks + 1 }
  | .synLr => { s with tfSyn := true, mode := .long, chunkKind := .full, remainingFullChunks := 0 }
  | .synLt => { s with tfSyn := true, mode := .long, chunkKind := .trim }
  | .keyIdle => { s with activeFlag := true, ks := .rows }
  | .keyDrop => { s with activeFlag := true, ks := .cols }
  | .keyRowMiss => { s with activeFlag := false, ks := .rows, pressed := noKeys }
  | .keyRowHit => { s with activeFlag := false, ks := .rows, pressed := keyTopLeft }
  | .keyColMiss => { s with activeFlag := false, ks := .cols, pressed := noKeys }
  | .keyColUnused => { s with cfg := Config.example, activeFlag := false, ks := .cols, rowLatch := 3, pressed := keyBottomLeft }
  | .keyColDigit => { s with cfg := Config.example, activeFlag := false, ks := .cols, rowLatch := 0, pressed := keyTopLeft }
  | .keyWait => { s with ks := .debounce }
  | .dspLoad ii => { s with tfDisp := true, phase := .loadSegments, activeDigitIndex := ii }
  | .dspEn ii => { s with tfDisp := true, phase := .enableDigit, activeDigitIndex := ii }
  | .reservedSyn | .reservedKey | .reservedEv5 | .reservedEv6 | .reservedEv7 => s

end Sys2Proof.Machine
end

