-- ==== Sys2Proof/Machine/Step.lean ====
section
/-! DEFINITION. The step: the next trace item, or the environment's next event, is played (R224). -/

namespace Sys2Proof.Machine

/-- One step of the block (R224). -/
def step (s : State) : Host.Outcome State Fault Refusal := playItem (fetch s).1 (fetch s).2

/-- `s` with the selector word `w` as the next item of its trace, in a state in which its operation is the one
enabled and selected, so that the very next step decodes `w` and performs it. A selector is one byte, so
`nbits` beyond 8 say nothing. See notes/assumptions/7.md. -/
def State.withFetchWord (s : State) (nbits w : Nat) : State :=
  match decodeTableWord nbits w with
  | some i => { makeSelected i s with trace := .selector (BitVec.ofNat 8 w) :: s.trace }
  | none => { s with trace := .selector (BitVec.ofNat 8 w) :: s.trace }

end Sys2Proof.Machine
end

