-- ==== Sys2Proof/Machine/Conditions.lean ====
section
/-!
DEFINITION. The named degenerate conditions of R220: what `note` records in the pseudocode (R8). Noting changes
no state and is no register, so the notes are a function of the operation and the state it runs in, not part
of `State`: "A model may log them; a claim must not depend on a log."
-/

namespace Sys2Proof.Machine

/-- The seven conditions of R220. -/
inductive Condition where
  | zeroFreq
  | negDelayClamp
  | noKey
  | multiKey
  | zeroLengthChunk
  | spuriousCompletion
  | keyWhileActive
deriving DecidableEq, Repr

/-- `NEG_DELAY_CLAMP` (R113): the subtraction of `OVERHEAD` gives a negative number. -/
def delayNegative (s : State) : Bool :=
  decide ((rawHalfPeriod s.cfg.toParams (freqNow s) : Int) - (s.cfg.overhead : Int) < 0)

/-- A condition noted when a test holds. -/
def noteIf (b : Bool) (c : Condition) : List Condition := if b then [c] else []

/-- What an operation notes when it runs in `s` (the "noted by" column of R220). `phase1` is the key matrix
phase 1 of this scan saw: `MULTI_KEY` is noted "if more than one key was down at either phase" (R169), and
nothing in the block remembers the earlier phase. -/
def noted (i : Instr) (phase1 : KeyMatrix) (s : State) : List Condition :=
  match i with
  | .actZ => [.zeroFreq]
  | .actS => noteIf (delayNegative s) .negDelayClamp ++ noteIf (decide (halfNow s = 0)) .zeroLengthChunk
  | .actL => noteIf (decide (halfNow s % s.cfg.timerRange = 0)) .zeroLengthChunk
  | .synNop => [.spuriousCompletion]
  | .keyDrop => [.keyWhileActive]
  | .keyRowMiss => [.noKey]
  | .keyColMiss => [.noKey]
  | .keyColUnused => [.noKey]
  | .keyColDigit => noteIf (decide (1 < keysDown phase1) || decide (1 < keysDown s.pressed)) .multiKey
  | .cnt => []
  | .deact => []
  | .synSt => []
  | .synLf => []
  | .synLr => []
  | .synLt => []
  | .keyIdle => []
  | .keyRowHit => []
  | .keyWait => []
  | .dspLoad _ => []
  | .dspEn _ => []
  | .reservedSyn => []
  | .reservedKey => []
  | .reservedEv5 => []
  | .reservedEv6 => []
  | .reservedEv7 => []

end Sys2Proof.Machine
end

