-- ==== Sys2Proof/Machine/Trace.lean ====
section
/-!
DEFINITION. The trace notation of R96 and R97: the primary items, and the pseudo-items `run n`, `press p`,
`release`, `enter d`, `toggle` with their expansions. Notation only: the block itself is `step`.
-/

namespace Sys2Proof.Machine

/-- What follows an answer when it is a next state. -/
def andThen (o : Host.Outcome State Fault Refusal) (k : State → Host.Outcome State Fault Refusal) :
    Host.Outcome State Fault Refusal :=
  match o with
  | .next s => k s
  | .fault r => .fault r
  | .refused r => .refused r

/-- `syn` if `tf_syn` = 1, else nothing (R97). -/
def serveSynIfPending (s : State) : Host.Outcome State Fault Refusal :=
  if s.tfSyn then serve .syn s else .next s

/-- `dsp` if `tf_disp` = 1, else nothing (R97). -/
def serveDspIfPending (s : State) : Host.Outcome State Fault Refusal :=
  if s.tfDisp then serve .dsp s else .next s

/-- One repetition of the eager schedule (R97): `cnt`; then `syn` if `tf_syn` = 1; then `dsp` if `tf_disp` = 1. -/
def cycle (s : State) : Host.Outcome State Fault Refusal :=
  andThen (andThen (serve .cnt s) serveSynIfPending) serveDspIfPending

/-- `run n` (R97): n repetitions. -/
def run : Nat → State → Host.Outcome State Fault Refusal
  | 0, s => .next s
  | n + 1, s => andThen (cycle s) (run n)

/-- The items of the notation: R96's primary items and R97's pseudo-items. -/
inductive Item where
  | prim (i : TraceItem)
  | run (n : Nat)
  | press (r : KeyRow) (c : KeyCol)
  | release
  | enter (d : Digit)
  | toggle
deriving DecidableEq, Repr

/-- The twelve positions in row-major order. -/
def keyPositions : List (KeyRow × KeyCol) :=
  [(0, 0), (0, 1), (0, 2), (1, 0), (1, 1), (1, 2), (2, 0), (2, 1), (2, 2), (3, 0), (3, 1), (3, 2)]

/-- The key matrix in which exactly the listed positions are held down (R96 `keys`). -/
def matrixOf (ps : List (KeyRow × KeyCol)) : KeyMatrix :=
  let has := fun (r : KeyRow) (c : KeyCol) => ps.contains (r, c)
  ⟨⟨has 0 0, has 0 1, has 0 2⟩, ⟨has 1 0, has 1 1, has 1 2⟩,
   ⟨has 2 0, has 2 1, has 2 2⟩, ⟨has 3 0, has 3 1, has 3 2⟩⟩

/-- The position `p` with `KEYMAP(p)` = d (R97 `enter`); every admissible `KEYMAP` has one (R269). -/
def keyFor (k : KeyMap) (d : Digit) : Option (KeyRow × KeyCol) :=
  keyPositions.find? fun p => k.read p.1 p.2 == some d

/-- The keys held for `enter d`. -/
def keysFor (k : KeyMap) (d : Digit) : KeyMatrix :=
  match keyFor k d with
  | some p => matrixOf [p]
  | none => noKeys

/-- Where `enter` may stand (R97): "while inactive and with `KS` = ROWS". -/
def enterAllowed (s : State) : Bool := !s.activeFlag && s.ks == .rows

/-- `enter d` up to its `run` (R97): `keys {p}`; `key`; `key`; `keys {}`. Where `enter` may not stand the trace is
ill-formed (R96). -/
def enterKeys (d : Digit) (s : State) : Host.Outcome State Fault Refusal :=
  if enterAllowed s then
    andThen (andThen (andThen (playItem (.keys (keysFor s.cfg.keyMap d)) s) (playItem (.event .key)))
      (playItem (.event .key))) (playItem (.keys noKeys))
  else .refused .illFormedItem

/-- One item with its expansion (R96, R97). -/
def play (item : Item) (s : State) : Host.Outcome State Fault Refusal :=
  match item with
  | .prim i => playItem i s
  | .run n => Machine.run n s
  | .press r c => playItem (.keys (matrixOf [(r, c)])) s
  | .release => playItem (.keys noKeys) s
  | .enter d => andThen (enterKeys d s) (Machine.run (6 * s.cfg.timerRange))
  | .toggle => playItem (.event .ctl) s

/-- A trace: its items in order. -/
def playAll : List Item → State → Host.Outcome State Fault Refusal
  | [], s => .next s
  | item :: rest, s => andThen (play item s) (playAll rest)

end Sys2Proof.Machine
end

