-- ==== Sys2Proof/Safety.lean ====
section
/-!
DEFINITION. What counts as a safe state and a safe run, in the terms the claims use: the invariants I1 to I9
of R33, the ranges the other rules give, and the two clocks of the block, the cycles to the next toggle of the
output (R147) and the cycles left of a debounce wait (R172).
-/

namespace Sys2Proof.Machine

/-! ## The invariants of R33. I1 (every digit is in 0..9) holds by type. -/

/-- I2: `ActiveFlag` = 0 implies `mode` = IDLE and `out` = 0. -/
abbrev InactiveIsIdle (s : State) : Prop := s.activeFlag = false → s.mode = .idle ∧ s.out = false

/-- I3: `ind` = `out`. -/
abbrev IndicatorFollows (s : State) : Prop := s.ind = s.out

/-- I4: `mode` = IDLE if and only if `T_SYN.run` = 0; and `mode` = IDLE implies `tf_syn` = 0, `out` = 0,
`chunkKind` = FULL, `remainingFullChunks` = 0, `chainCount` = 0, `trimReloadValue` = 0. -/
abbrev IdleIsQuiet (s : State) : Prop :=
  (s.mode = .idle ↔ s.tSyn.run = false) ∧
  (s.mode = .idle → s.tfSyn = false ∧ s.out = false ∧ s.chunkKind = .full ∧ s.remainingFullChunks = 0 ∧
    s.chainCount = 0 ∧ s.trimReloadValue = 0)

/-- I5: `mode` = SHORT implies `chunkKind` = TRIM, `remainingFullChunks` = 0, `chainCount` = 0. -/
abbrev ShortIsTrim (s : State) : Prop :=
  s.mode = .short → s.chunkKind = .trim ∧ s.remainingFullChunks = 0 ∧ s.chainCount = 0

/-- I6: `mode` = LONG implies `remainingFullChunks` <= `chainCount` and 1 <= `trimReloadValue`; and
`chunkKind` = TRIM implies `remainingFullChunks` = 0. -/
abbrev LongIsChained (s : State) : Prop :=
  (s.mode = .long → s.remainingFullChunks ≤ s.chainCount ∧ 1 ≤ s.trimReloadValue) ∧
  (s.chunkKind = .trim → s.remainingFullChunks = 0)

/-- I7: `KS` = DEBOUNCE if and only if `T_DEB.run` = 1 if and only if `debLeft` >= 1. -/
abbrev DebounceRuns (s : State) : Prop :=
  (s.ks = .debounce ↔ s.tDeb.run = true) ∧ (s.tDeb.run = true ↔ 1 ≤ s.debLeft.toNat)

/-- At most one bit of a word of digit enables is 1. -/
abbrev atMostOneBit (e : BitVec 4) : Prop := e = 0 ∨ e = 1 ∨ e = 2 ∨ e = 4 ∨ e = 8

/-- I8: at most one bit of `digit_en` is 1, and `phase` = ENABLE_DIGIT implies `digit_en` = 0000. -/
abbrev OneDigitLit (s : State) : Prop :=
  atMostOneBit s.digitEn ∧ (s.phase = .enableDigit → s.digitEn = 0)

/-- I9: every counter is in 0 .. `TIMER_RANGE` - 1, `T_DISP.cnt` in 0 .. `DISP_PERIOD` - 1. -/
abbrev CountersInRange (s : State) : Prop :=
  s.tSyn.cnt < s.cfg.timerRange ∧ s.tDeb.cnt < s.cfg.timerRange ∧ s.tDispCnt < s.cfg.dispPeriod

/-- The invariants of R33. -/
abbrev Inv (s : State) : Prop :=
  InactiveIsIdle s ∧ IndicatorFollows s ∧ IdleIsQuiet s ∧ ShortIsTrim s ∧ LongIsChained s ∧
  DebounceRuns s ∧ OneDigitLit s ∧ CountersInRange s

/-! ## The ranges other rules give, and what a pending flag says of its counter -/

/-- `trimReloadValue` in 0 .. `TIMER_RANGE` (R23), `chainCount` and `remainingFullChunks` in `CHAIN_BITS` bits
(R23, R25), `debLeft` in 0 .. 6 (R30). -/
abbrev ValuesFit (s : State) : Prop :=
  s.trimReloadValue ≤ s.cfg.timerRange ∧ s.chainCount < 2 ^ s.cfg.chainBits ∧
  s.remainingFullChunks < 2 ^ s.cfg.chainBits ∧ s.debLeft.toNat ≤ 6

/-- A pending flag is served before time advances (R225), so the counter that set it still holds the 0 its
wrap left. -/
abbrev PendingAtZero (s : State) : Prop :=
  (s.tfSyn = true → s.tSyn.cnt = 0) ∧ (s.tfDisp = true → s.tDispCnt = 0)

/-- What holds of every state a run from reset reaches: R33's invariants, the ranges, and the above. -/
abbrev Sound (s : State) : Prop := Inv s ∧ ValuesFit s ∧ PendingAtZero s

/-! ## The toggle clock (R147) -/

/-- How many cycles the TRIM chunk lasts: `TIMER_RANGE - trimReloadValue`, and `ZERO_CHUNK_CYCLES` for the
degenerate reload value `TIMER_RANGE` (R36, R38). -/
def trimChunkCycles (s : State) : Nat :=
  if s.trimReloadValue < s.cfg.timerRange then s.cfg.timerRange - s.trimReloadValue else s.cfg.zeroChunkCycles

/-- The `h'` of R147: the cycles from one toggle to the next. -/
def realisedHalfPeriod (s : State) : Nat :=
  match s.mode with
  | .idle => 0
  | .short => trimChunkCycles s
  | .long => (s.chainCount + 1) * s.cfg.timerRange + trimChunkCycles s

/-- The cycles that still have to pass before the operation that toggles the output next: what is left of the
chunk being counted, and in a FULL chunk of LONG mode the chunks still to come (R141). -/
def cyclesToToggle (s : State) : Nat :=
  (if s.tfSyn then 0 else s.cfg.timerRange - s.tSyn.cnt) +
  (if s.mode = .long ∧ s.chunkKind = .full then s.remainingFullChunks * s.cfg.timerRange + trimChunkCycles s else 0)

/-! ## The debounce clock (R172) -/

/-- The cycles left of a debounce wait. -/
def debounceCyclesLeft (s : State) : Nat := s.debLeft.toNat * s.cfg.timerRange - s.tDeb.cnt

/-! ## Views of a state -/

/-- The state with everything the display refresher owns (R190) set to fixed values. -/
def maskDisplay (s : State) : State :=
  { s with activeDigitIndex := 0, phase := .loadSegments, digitEn := 0, seg := 0, tDispCnt := 0, tfDisp := false }

/-- The state with the stale count of a stopped `T_SYN` forgotten (R39, R40: unobservable). -/
def maskStaleCount (s : State) : State := { s with tSyn := { s.tSyn with cnt := 0 } }

/-- DigitBuffer as the list of its digits, most significant first. -/
def digitList (d : DigitBuffer) : List Digit := [d.d0, d.d1, d.d2, d.d3]

/-- A channel counted `n` times. -/
def countTimes (modulus : Nat) : Nat → Channel → Channel
  | 0, c => c
  | n + 1, c => countTimes modulus n (c.count modulus)

/-- Two operations commute (R230): performed in either order from the same state they give the same state. -/
def OpsCommute (i j : Instr) : Prop :=
  ∀ s u : State,
    (∃ t, exec i s = .next t ∧ exec j t = .next u) ↔ (∃ t, exec j s = .next t ∧ exec i t = .next u)

end Sys2Proof.Machine
end

