-- ==== Sys2Proof/Certificates/Slice0/Obligations.lean ====
section
/-!
DEFINITION. The statements for the provers. Each docstring names the rule of spec/ it formalises. The witnesses of
the hypotheses stand in Sys2Proof/Tests/Slice0.lean, under the name witness_<statement>.
-/

open Sys2Proof Sys2Proof.Machine

/-! ## Encoding and selection -/

/-- R89: the "canonical SEL" column of the table, and two more words of V-SEL, decode to their operations. -/
def Obligations.SpecSelectorsDecode : Prop :=
  decodeTableWord 8 0x00 = some .cnt ∧ decodeTableWord 8 0x28 = some .actZ ∧
  decodeTableWord 8 0x20 = some .actS ∧ decodeTableWord 8 0x24 = some .actL ∧
  decodeTableWord 8 0x30 = some .deact ∧ decodeTableWord 8 0x40 = some .synNop ∧
  decodeTableWord 8 0x46 = some .synSt ∧ decodeTableWord 8 0x49 = some .synLf ∧
  decodeTableWord 8 0x48 = some .synLr ∧ decodeTableWord 8 0x4A = some .synLt ∧
  decodeTableWord 8 0x70 = some .keyIdle ∧ decodeTableWord 8 0x74 = some .keyDrop ∧
  decodeTableWord 8 0x60 = some .keyRowMiss ∧ decodeTableWord 8 0x62 = some .keyRowHit ∧
  decodeTableWord 8 0x64 = some .keyColMiss ∧ decodeTableWord 8 0x66 = some .keyColUnused ∧
  decodeTableWord 8 0x67 = some .keyColDigit ∧ decodeTableWord 8 0x68 = some .keyWait ∧
  decodeTableWord 8 0x78 = some .keyWait ∧ decodeTableWord 8 0x80 = some (.dspLoad 0) ∧
  decodeTableWord 8 0x82 = some (.dspLoad 2) ∧ decodeTableWord 8 0x84 = some (.dspEn 0) ∧
  decodeTableWord 8 0x87 = some (.dspEn 3)

/-- R89: "Exactly one pattern matches every `SEL`", and the twenty operations are what the unreserved words
select (R92 names the reserved ones). -/
def Obligations.EverySelectorMatchesOneRow : Prop :=
  ∀ w : Sel, (table.filter (Row.hits w)).length = 1 ∧
    ∃ i, decodeSel w = some i ∧ (i.wellFormed = true ↔ Sel.unreserved w = true)

/-- Decode and encode agree: every operation of R89, with every value of its field `ii`, is read back from its
encoding, whatever bytes follow. -/
def Obligations.DecodeOfEncodeIsIdentity : Prop :=
  ∀ (i : Instr) (rest : List (BitVec 8)), i.wellFormed = true → decode (encode i ++ rest) = .ok (i, rest)

/-- R81, R64, R91, R92: the data formats are read back as written: DigitBuffer packed with `D[0]` in bits 15:12, the
codes of `mode`, `KS` and a key position; a packed word is a DigitBuffer exactly when no digit of it is a reserved
code, and the reserved codes 3 of `mode`, `KS` and the key column stand for nothing. -/
def Obligations.DataFormatsReadBack : Prop :=
  (∀ d : DigitBuffer, DigitBuffer.ofPacked d.packed = some d ∧
    d.packed.toNat = 4096 * d.d0.val + 256 * d.d1.val + 16 * d.d2.val + d.d3.val) ∧
  (∀ (w : BitVec 16) (d : DigitBuffer), DigitBuffer.ofPacked w = some d → d.packed = w) ∧
  (∀ w : BitVec 16, (DigitBuffer.ofPacked w).isSome = true ↔
    w.toNat / 4096 < 10 ∧ w.toNat / 256 % 16 < 10 ∧ w.toNat / 16 % 16 < 10 ∧ w.toNat % 16 < 10) ∧
  (∀ m : Mode, Mode.ofCode m.code = some m) ∧ Mode.ofCode 3 = none ∧
  (∀ k : KeyState, KeyState.ofCode k.code = some k) ∧ KeyState.ofCode 3 = none ∧
  (∀ (r : KeyRow) (c : KeyCol), keyPosOfCode (keyPosCode r c) = some (r, c)) ∧
  (∀ w : BitVec 4, w.toNat % 4 = 3 → keyPosOfCode w = none)

/-- R224, R221: an event of any enabled class has a selector, the selector selects an operation of that class,
and the operation runs: it neither faults nor is refused. -/
def Obligations.EnabledEventSelectsAnOperationThatRuns : Prop :=
  ∀ (s : State) (c : EventClass), enabled c s = true →
    ∃ i t, decodeSel (formSel c s) = some i ∧ i.wellFormed = true ∧ i.eventClass = some c ∧
      exec i s = .next t ∧ serve c s = .next t

/-- The "selected when" column of R89: an operation runs only where its class is enabled (R224) and the selector
R90 forms in the state selects it. -/
def Obligations.OperationRunsOnlyWhereSelected : Prop :=
  ∀ (i : Instr) (s t : State), exec i s = .next t →
    ∃ c, i.eventClass = some c ∧ enabled c s = true ∧ decodeSel (formSel c s) = some i

/-- R224, which class may occur next: CTL and KEY always, SYN if `tf_syn` = 1, DSP if `tf_disp` = 1, CNT if both
are 0. An event that is not enabled is refused (R96; that it is a refusal of the name notEnabled is the model's
choice, notes/assumptions/3.md). -/
def Obligations.EventRunsExactlyWhenEnabled : Prop :=
  ∀ s : State,
    (∃ t, serve .ctl s = .next t) ∧ (∃ t, serve .key s = .next t) ∧
    (s.tfSyn = true → ∃ t, serve .syn s = .next t) ∧ (s.tfSyn = false → serve .syn s = .refused .notEnabled) ∧
    (s.tfDisp = true → ∃ t, serve .dsp s = .next t) ∧ (s.tfDisp = false → serve .dsp s = .refused .notEnabled) ∧
    (s.tfSyn = false ∧ s.tfDisp = false → ∃ t, serve .cnt s = .next t) ∧
    (¬(s.tfSyn = false ∧ s.tfDisp = false) → serve .cnt s = .refused .notEnabled)

/-- A step runs the decoded operation: of a selector given in the trace, of the selector R90 forms for an event of
the trace, and with no trace of the selector formed for a class that is enabled, with the keys the environment
holds down then. A `keys` directive changes the key lines only (R96). -/
def Obligations.StepRunsTheDecodedOperation : Prop :=
  (∀ (s : State) (w : Sel) (rest : List TraceItem) (i : Instr), s.trace = .selector w :: rest →
    decode [w] = .ok (i, []) → step s = exec i { s with trace := rest }) ∧
  (∀ (s : State) (c : EventClass) (rest : List TraceItem) (i : Instr), s.trace = .event c :: rest →
    decode [formSel c s] = .ok (i, []) → step s = exec i { s with trace := rest }) ∧
  (∀ (s : State) (m : KeyMatrix) (rest : List TraceItem), s.trace = .keys m :: rest →
    step s = .next { s with trace := rest, pressed := m }) ∧
  (∀ s : State, s.trace = [] → ∃ c i, enabled c s = true ∧
    decode [formSel c { s with pressed := (Config.environment s.envCount).keys }] = .ok (i, []) ∧
    step s = exec i { s with pressed := (Config.environment s.envCount).keys, envCount := s.envCount + 1 })

/-- R221, R231: with no trace given the block always has a next state; it never halts, faults or refuses. -/
def Obligations.FreeRunningBlockNeverHalts : Prop :=
  ∀ s : State, s.trace = [] → ∃ t, step s = .next t ∧ t.trace = []

/-! ## Reset -/

/-- R44, R262: the reset table, for every admissible parameters: right after reset, and right after a reset input
asserted in any state whatever was in progress. `State.reset` is this table for this hardware's parameters. -/
def Obligations.ResetLeavesTheTable : Prop :=
  State.reset = State.resetWith Config.platform.config ∧
  ∀ (c : Config) (r : State), (r = State.resetWith c ∨ ∃ s : State, s.cfg = c ∧ r = assertReset s) →
    r.d = c.digitInit ∧ r.activeFlag = false ∧ r.out = false ∧ r.ind = false ∧ r.mode = .idle ∧
    r.chunkKind = .full ∧ r.remainingFullChunks = 0 ∧ r.chainCount = 0 ∧ r.trimReloadValue = 0 ∧
    r.ks = .rows ∧ r.rowLatch = 0 ∧ r.debLeft = 0 ∧ r.activeDigitIndex = 0 ∧ r.phase = .loadSegments ∧
    r.digitEn = 0 ∧ r.seg = c.segBlank ∧ r.tSyn = ⟨0, false⟩ ∧ r.tDeb = ⟨0, false⟩ ∧ r.tDispCnt = 0 ∧
    r.tfSyn = false ∧ r.tfDisp = false ∧ r.t = 0 ∧ r.cfg = c

/-- R5, R261 (which the spec marks derived): this hardware has `TIMER_RANGE` = 65536 and `CHAIN_BITS` = 8; in
the reset state, for every admissible parameters, exactly the classes CTL, KEY and CNT are enabled, the control
edge is an activation, `ACT.Z` if `DIGIT_INIT` = [0,0,0,0], the key step is phase 1 of a scan, and the first
display tick comes after exactly `DISP_PERIOD` cycles. -/
def Obligations.ResetEnablesEdgeKeyAndCount : Prop :=
  State.reset.cfg.timerRange = 65536 ∧ State.reset.cfg.chainBits = 8 ∧
  ∀ c : Config,
    (∀ k, enabled k (State.resetWith c) = true ↔ k = .ctl ∨ k = .key ∨ k = .cnt) ∧
    (∃ i t, decodeSel (formSel .ctl (State.resetWith c)) = some i ∧ i ∈ [Instr.actZ, .actS, .actL] ∧
      exec i (State.resetWith c) = .next t ∧ t.activeFlag = true) ∧
    (c.digitInit = ⟨0, 0, 0, 0⟩ → decodeSel (formSel .ctl (State.resetWith c)) = some .actZ) ∧
    (∀ m : KeyMatrix, decodeSel (formSel .key { State.resetWith c with pressed := m }) =
      some (if ∃ r k, m.read r k = true then .keyRowHit else .keyRowMiss)) ∧
    (∀ k, k < c.dispPeriod → ∃ u, Machine.run k (State.resetWith c) = .next u ∧ u.tDispCnt = k ∧
      u.phase = .loadSegments ∧ u.digitEn = 0) ∧
    (∃ u, Machine.run (c.dispPeriod - 1) (State.resetWith c) = .next u ∧
      ∃ v w, serve .cnt u = .next v ∧ v.tfDisp = true ∧ serve .dsp v = .next w ∧ w.digitEn = 0 ∧
        w.seg = c.segTable.read c.digitInit.d0 ∧ w.phase = .enableDigit)

/-- R269: every configuration a state can hold is admissible (the model refuses the others by type). -/
def Obligations.EveryConfigurationIsAdmissible : Prop :=
  ∀ c : Config,
    (∃ k, 1 ≤ k ∧ c.timerRange = 2 ^ k) ∧ 0 < c.cycleNum ∧ 0 < c.cycleDen ∧
    1 ≤ c.zeroChunkCycles ∧ c.zeroChunkCycles ≤ c.timerRange ∧ c.nMax < 2 ^ c.chainBits ∧
    (∀ v : Digit, ∃ r k, c.keyMap.read r k = some v ∧
      ∀ r' k', c.keyMap.read r' k' = some v → r' = r ∧ k' = k) ∧
    1 ≤ c.dispPeriod

/-! ## Counting -/

/-- R130 to R133: `CNT` occurs only with nothing pending; the three channels, the debounce count, the pending flags,
and nothing else. The premises I7 and I9 of R33, which every step keeps (StepKeepsTheInvariants), shut out what those
rules leave open: the debounce count running at 0, and a counter at or above its modulus. -/
def Obligations.CountAdvancesTheThreeChannels : Prop :=
  ∀ s : State,
    (s.tfSyn = true ∨ s.tfDisp = true → ∀ t, exec .cnt s ≠ .next t) ∧
    (s.tfSyn = false → s.tfDisp = false → DebounceRuns s → CountersInRange s →
      decodeSel (formSel .cnt s) = some .cnt ∧
      exec .cnt s = .next { s with
      t := s.t + 1
      tSyn := if s.tSyn.run = true then
          (if s.tSyn.cnt = s.cfg.timerRange - 1 then ⟨0, true⟩ else ⟨s.tSyn.cnt + 1, true⟩) else s.tSyn
      tfSyn := s.tSyn.run && decide (s.tSyn.cnt = s.cfg.timerRange - 1)
      tDeb := if s.tDeb.run = true then
          (if s.tDeb.cnt = s.cfg.timerRange - 1 then ⟨0, !decide (s.debLeft - 1 = 0)⟩ else ⟨s.tDeb.cnt + 1, true⟩)
          else s.tDeb
      debLeft := if s.tDeb.run = true ∧ s.tDeb.cnt = s.cfg.timerRange - 1 then s.debLeft - 1 else s.debLeft
      ks := if s.tDeb.run = true ∧ s.tDeb.cnt = s.cfg.timerRange - 1 ∧ s.debLeft - 1 = 0 then .rows else s.ks
      tDispCnt := if s.tDispCnt = s.cfg.dispPeriod - 1 then 0 else s.tDispCnt + 1
      tfDisp := decide (s.tDispCnt = s.cfg.dispPeriod - 1) })

/-- R36, with R38 and R41: the contract of a timer channel. After a configure a running channel completes after
exactly `TIMER_RANGE - r` counts (`ZERO_CHUNK_CYCLES` for r = `TIMER_RANGE`) and not before, then again after
exactly `TIMER_RANGE`; a stopped channel never completes; a configure replaces the count. -/
def Obligations.TimerChannelContract : Prop :=
  ∀ (c : Config) (ch : Channel) (r n : Nat), r ≤ c.timerRange →
    n = (if r < c.timerRange then c.timerRange - r else c.zeroChunkCycles) →
    (ch.run = true →
      (∀ k, k + 1 < n → (countTimes c.timerRange k (ch.configure c.toParams r)).completes c.timerRange = false) ∧
      (countTimes c.timerRange (n - 1) (ch.configure c.toParams r)).completes c.timerRange = true ∧
      countTimes c.timerRange n (ch.configure c.toParams r) = ⟨0, true⟩) ∧
    (∀ k, k + 1 < c.timerRange → (countTimes c.timerRange k ⟨0, true⟩).completes c.timerRange = false) ∧
    (countTimes c.timerRange (c.timerRange - 1) ⟨0, true⟩).completes c.timerRange = true ∧
    countTimes c.timerRange c.timerRange ⟨0, true⟩ = ⟨0, true⟩ ∧
    (∀ k, countTimes c.timerRange k ch.stop = ch.stop ∧
      (countTimes c.timerRange k ch.stop).completes c.timerRange = false) ∧
    (∀ ch' : Channel, (ch'.configure c.toParams r).cnt = (ch.configure c.toParams r).cnt) ∧
    ch.configure c.toParams c.timerRange = ch.configure c.toParams (c.timerRange - c.zeroChunkCycles)

/-! ## The control edge -/

/-- R112: `ACT.Z`. -/
def Obligations.ActivationWithZeroFrequency : Prop :=
  ∀ (s : State) (k : KeyMatrix), s.activeFlag = false → s.d = ⟨0, 0, 0, 0⟩ →
    decodeSel (formSel .ctl s) = some .actZ ∧
      exec .actZ s = .next { s with
      activeFlag := true, mode := .idle, chunkKind := .full, remainingFullChunks := 0, chainCount := 0,
      trimReloadValue := 0 } ∧
    noted .actZ k s = [.zeroFreq]

/-- R116: `ACT.S`, with `f` of R83 and `h` of R113 (the natural subtraction is the clamp at 0). -/
def Obligations.ActivationIntoShortMode : Prop :=
  ∀ (s : State) (k : KeyMatrix) (f q h : Nat),
    f = 1000 * s.d.d0.val + 100 * s.d.d1.val + 10 * s.d.d2.val + s.d.d3.val →
    q = 500000 * s.cfg.cycleDen / (f * s.cfg.cycleNum) → h = q - s.cfg.overhead →
    s.activeFlag = false → f ≠ 0 → h ≤ s.cfg.timerRange →
    decodeSel (formSel .ctl s) = some .actS ∧
      exec .actS s = .next { s with
      activeFlag := true, mode := .short, chunkKind := .trim, remainingFullChunks := 0, chainCount := 0,
      trimReloadValue := s.cfg.timerRange - h,
      tSyn := ⟨if s.cfg.timerRange - h < s.cfg.timerRange then s.cfg.timerRange - h
               else s.cfg.timerRange - s.cfg.zeroChunkCycles, true⟩ } ∧
    noted .actS k s =
      (if q < s.cfg.overhead then [.negDelayClamp, .zeroLengthChunk]
       else if h = 0 then [.zeroLengthChunk] else [])

/-- R117: `ACT.L`. -/
def Obligations.ActivationIntoLongMode : Prop :=
  ∀ (s : State) (k : KeyMatrix) (f h : Nat),
    f = 1000 * s.d.d0.val + 100 * s.d.d1.val + 10 * s.d.d2.val + s.d.d3.val →
    h = 500000 * s.cfg.cycleDen / (f * s.cfg.cycleNum) - s.cfg.overhead →
    s.activeFlag = false → f ≠ 0 → s.cfg.timerRange < h →
    decodeSel (formSel .ctl s) = some .actL ∧
      exec .actL s = .next { s with
      activeFlag := true, mode := .long, chunkKind := .full,
      remainingFullChunks := h / s.cfg.timerRange - 1, chainCount := h / s.cfg.timerRange - 1,
      trimReloadValue := s.cfg.timerRange - h % s.cfg.timerRange, tSyn := ⟨0, true⟩ } ∧
    noted .actL k s = (if h % s.cfg.timerRange = 0 then [.zeroLengthChunk] else [])

/-- R206: `DEACT`. -/
def Obligations.DeactivationClearsEverything : Prop :=
  ∀ (s : State) (k : KeyMatrix), s.activeFlag = true →
    decodeSel (formSel .ctl s) = some .deact ∧
      exec .deact s = .next { s with
      activeFlag := false, tSyn := ⟨s.tSyn.cnt, false⟩, tfSyn := false, out := false, ind := false,
      d := ⟨0, 0, 0, 0⟩, mode := .idle, chunkKind := .full, remainingFullChunks := 0, chainCount := 0,
      trimReloadValue := 0 } ∧
    noted .deact k s = []

/-- R113, R114: the half-period is the exact rational quotient rounded down once, less the overhead, clamped at
0 on the integers. -/
def Obligations.HalfPeriodIsTheExactQuotient : Prop :=
  ∀ (c : Config) (f : Nat), f ≠ 0 →
    (halfPeriod c.toParams f : Int) =
      max 0 (⌊(500000 : ℚ) / ((f : ℚ) * ((c.cycleNum : ℚ) / (c.cycleDen : ℚ)))⌋ - (c.overhead : Int))

/-- R201: every control edge is served, and successive edges alternate between activation and deactivation; which
activation it is follows from `f` and `h`. -/
def Obligations.ControlEdgesAlternate : Prop :=
  ∀ s : State, ∃ t, serve .ctl s = .next t ∧ t.activeFlag = !s.activeFlag ∧
    (s.activeFlag = true → exec .deact s = .next t) ∧
    (s.activeFlag = false →
      (frequency s.d = 0 → exec .actZ s = .next t) ∧
      (frequency s.d ≠ 0 → halfPeriod s.cfg.toParams (frequency s.d) ≤ s.cfg.timerRange →
        exec .actS s = .next t) ∧
      (frequency s.d ≠ 0 → s.cfg.timerRange < halfPeriod s.cfg.toParams (frequency s.d) →
        exec .actL s = .next t))

/-- The reconstruction identity of R119 (the spec marks it derived): the plan an activation writes adds up to the
half-period. -/
def Obligations.PlanReconstructsTheHalfPeriod : Prop :=
  ∀ (i : Instr) (s t : State), i = .actS ∨ i = .actL → exec i s = .next t →
    halfPeriod s.cfg.toParams (frequency s.d) =
      (if t.mode = .long then (t.chainCount + 1) * t.cfg.timerRange else 0) +
        (t.cfg.timerRange - t.trimReloadValue)

/-- R118: the degenerate reload value arises in exactly two cases, and those are the ones noted. -/
def Obligations.DegeneratePlanArisesExactly : Prop :=
  ∀ (s t : State) (k : KeyMatrix),
    (exec .actS s = .next t →
      (t.trimReloadValue = t.cfg.timerRange ↔ halfPeriod s.cfg.toParams (frequency s.d) = 0) ∧
      (t.trimReloadValue = t.cfg.timerRange ↔ Condition.zeroLengthChunk ∈ noted .actS k s)) ∧
    (exec .actL s = .next t →
      (t.trimReloadValue = t.cfg.timerRange ↔
        ∃ m, 2 ≤ m ∧ halfPeriod s.cfg.toParams (frequency s.d) = m * s.cfg.timerRange) ∧
      (t.trimReloadValue = t.cfg.timerRange ↔ Condition.zeroLengthChunk ∈ noted .actL k s))

/-- R121, R25: the chain count of any activation is at most `N_MAX` and fits in `CHAIN_BITS` bits. -/
def Obligations.ChainCountFits : Prop :=
  ∀ s t : State, exec .actL s = .next t →
    t.chainCount ≤ s.cfg.nMax ∧ t.chainCount < 2 ^ s.cfg.chainBits

/-- R120 (which the spec marks derived): the plan is a function of the digits and the parameters alone. -/
def Obligations.PlanDependsOnDigitsAlone : Prop :=
  ∀ s₁ s₂ t₁ t₂ : State, s₁.activeFlag = false → s₂.activeFlag = false → s₁.d = s₂.d → s₁.cfg = s₂.cfg →
    serve .ctl s₁ = .next t₁ → serve .ctl s₂ = .next t₂ →
    t₁.mode = t₂.mode ∧ t₁.chunkKind = t₂.chunkKind ∧ t₁.remainingFullChunks = t₂.remainingFullChunks ∧
    t₁.chainCount = t₂.chainCount ∧ t₁.trimReloadValue = t₂.trimReloadValue ∧
    (t₁.mode ≠ .idle → t₁.tSyn = t₂.tSyn)

/-! ## Completion handling -/

/-- R137: `SYN.NOP`. -/
def Obligations.CompletionWhileIdleIsConsumed : Prop :=
  ∀ (s : State) (k : KeyMatrix), s.tfSyn = true → s.mode = .idle →
    decodeSel (formSel .syn s) = some .synNop ∧
      exec .synNop s = .next { s with tfSyn := false } ∧ noted .synNop k s = [.spuriousCompletion]

/-- R140: `SYN.ST`, for a `trimReloadValue` in its range (R23), which every step keeps (StepKeepsTheRanges). -/
def Obligations.ShortCompletionTogglesAndReloads : Prop :=
  ∀ (s : State) (k : KeyMatrix), s.tfSyn = true → s.mode = .short → s.trimReloadValue ≤ s.cfg.timerRange →
    decodeSel (formSel .syn s) = some .synSt ∧
      exec .synSt s = .next { s with
      tfSyn := false, out := !s.out, ind := !s.ind,
      tSyn := ⟨if s.trimReloadValue < s.cfg.timerRange then s.trimReloadValue
               else s.cfg.timerRange - s.cfg.zeroChunkCycles, s.tSyn.run⟩ } ∧
    noted .synSt k s = []

/-- R143: `SYN.LF`. -/
def Obligations.FullChunkCompletionCountsDown : Prop :=
  ∀ (s : State) (k : KeyMatrix),
    s.tfSyn = true → s.mode = .long → s.chunkKind = .full → 0 < s.remainingFullChunks →
    decodeSel (formSel .syn s) = some .synLf ∧
      exec .synLf s = .next { s with tfSyn := false, remainingFullChunks := s.remainingFullChunks - 1 } ∧
    noted .synLf k s = []

/-- R144: `SYN.LR`, for a `trimReloadValue` in its range (R23), which every step keeps (StepKeepsTheRanges). -/
def Obligations.LastFullChunkCompletionLoadsTrim : Prop :=
  ∀ (s : State) (k : KeyMatrix),
    s.tfSyn = true → s.mode = .long → s.chunkKind = .full → s.remainingFullChunks = 0 →
    s.trimReloadValue ≤ s.cfg.timerRange →
    decodeSel (formSel .syn s) = some .synLr ∧
      exec .synLr s = .next { s with
      tfSyn := false, chunkKind := .trim,
      tSyn := ⟨if s.trimReloadValue < s.cfg.timerRange then s.trimReloadValue
               else s.cfg.timerRange - s.cfg.zeroChunkCycles, s.tSyn.run⟩ } ∧
    noted .synLr k s = []

/-- R145: `SYN.LT`. -/
def Obligations.TrimCompletionTogglesAndRestarts : Prop :=
  ∀ (s : State) (k : KeyMatrix), s.tfSyn = true → s.mode = .long → s.chunkKind = .trim →
    decodeSel (formSel .syn s) = some .synLt ∧
      exec .synLt s = .next { s with
      tfSyn := false, out := !s.out, ind := !s.ind, remainingFullChunks := s.chainCount,
      tSyn := ⟨0, s.tSyn.run⟩, chunkKind := .full } ∧
    noted .synLt k s = []

/-! ## The keypad path -/

/-- R161, R164, R174: `KEY.IDLE`, `KEY.ROW.MISS`, `KEY.WAIT` change nothing. -/
def Obligations.IdleMissAndWaitChangeNothing : Prop :=
  ∀ (s : State) (k : KeyMatrix),
    (s.activeFlag = true → s.ks = .rows → decodeSel (formSel .key s) = some .keyIdle ∧
      exec .keyIdle s = .next s ∧ noted .keyIdle k s = []) ∧
    (s.activeFlag = false → s.ks = .rows → (∀ r c, s.pressed.read r c = false) →
      decodeSel (formSel .key s) = some .keyRowMiss ∧
      exec .keyRowMiss s = .next s ∧ noted .keyRowMiss k s = [.noKey]) ∧
    (s.ks = .debounce → decodeSel (formSel .key s) = some .keyWait ∧
      exec .keyWait s = .next s ∧ noted .keyWait k s = [])

/-- R165: `KEY.ROW.HIT` latches the lowest row with a key down. -/
def Obligations.RowHitLatchesTheLowestRow : Prop :=
  ∀ (s : State) (k : KeyMatrix) (r : KeyRow) (c : KeyCol), s.activeFlag = false → s.ks = .rows →
    s.pressed.read r c = true → (∀ r' c', r' < r → s.pressed.read r' c' = false) →
    decodeSel (formSel .key s) = some .keyRowHit ∧
      exec .keyRowHit s = .next { s with rowLatch := r, ks := .cols } ∧ noted .keyRowHit k s = []

/-- R162, R167, R168: `KEY.DROP`, `KEY.COL.MISS`, `KEY.COL.UNUSED` go back to phase 1 and change nothing else. -/
def Obligations.ScanWithoutDigitGoesBackToRows : Prop :=
  ∀ (s : State) (k : KeyMatrix), s.ks = .cols →
    (s.activeFlag = true →
      decodeSel (formSel .key s) = some .keyDrop ∧
      exec .keyDrop s = .next { s with ks := .rows } ∧ noted .keyDrop k s = [.keyWhileActive]) ∧
    (s.activeFlag = false → (∀ c, s.pressed.read s.rowLatch c = false) →
      decodeSel (formSel .key s) = some .keyColMiss ∧
      exec .keyColMiss s = .next { s with ks := .rows } ∧ noted .keyColMiss k s = [.noKey]) ∧
    (∀ c : KeyCol, s.activeFlag = false → s.pressed.read s.rowLatch c = true →
      (∀ c', c' < c → s.pressed.read s.rowLatch c' = false) → s.cfg.keyMap.read s.rowLatch c = none →
      decodeSel (formSel .key s) = some .keyColUnused ∧
      exec .keyColUnused s = .next { s with ks := .rows } ∧ noted .keyColUnused k s = [.noKey])

/-- R169, with R166 and R170: `KEY.COL.DIGIT` shifts in the digit of the lowest column down in the latched row and
starts the debounce wait. -/
def Obligations.DigitKeyShiftsInAndStartsTheWait : Prop :=
  ∀ (s : State) (k : KeyMatrix) (c : KeyCol) (v : Digit), s.activeFlag = false → s.ks = .cols →
    s.pressed.read s.rowLatch c = true → (∀ c', c' < c → s.pressed.read s.rowLatch c' = false) →
    s.cfg.keyMap.read s.rowLatch c = some v →
    decodeSel (formSel .key s) = some .keyColDigit ∧
      exec .keyColDigit s = .next { s with
      d := ⟨s.d.d1, s.d.d2, s.d.d3, v⟩, debLeft := 6, tDeb := ⟨0, true⟩, ks := .debounce } ∧
    noted .keyColDigit k s = (if 1 < keysDown k ∨ 1 < keysDown s.pressed then [.multiKey] else [])

/-- R171 (which the spec marks derived): DigitBuffer is a first-in-first-out register of width 4: after any
digits shifted in it holds the last four of its old digits followed by them. -/
def Obligations.DigitBufferIsAFifoOfFour : Prop :=
  ∀ (b : DigitBuffer) (ds : List Digit),
    digitList (ds.foldl (fun b v => b.shiftIn v) b) = (digitList b ++ ds).drop ds.length

/-- R172, R97: entering a digit while inactive in phase 1 with nothing pending shifts it in, and after exactly
6 x `TIMER_RANGE` cycles of the eager schedule the wait is over and the path is back in phase 1. -/
def Obligations.EnteringADigitTakesSixSpans : Prop :=
  ∀ (s : State) (v : Digit), Sound s → s.activeFlag = false → s.ks = .rows → s.tfDisp = false →
    ∃ t u, enterKeys v s = .next t ∧ t.d = ⟨s.d.d1, s.d.d2, s.d.d3, v⟩ ∧ t.ks = .debounce ∧ t.debLeft = 6 ∧
      t.tDeb = ⟨0, true⟩ ∧ t.t = s.t ∧
      play (.enter v) s = .next u ∧ u.d = ⟨s.d.d1, s.d.d2, s.d.d3, v⟩ ∧ u.ks = .rows ∧ u.debLeft = 0 ∧
      u.tDeb = ⟨0, false⟩ ∧ u.t = s.t + 6 * s.cfg.timerRange ∧ u.activeFlag = false ∧ u.out = s.out

/-- R172, R173: under any schedule a debounce wait loses one cycle at each `CNT` and at nothing else, ends exactly
when none is left, and nothing restarts or cancels it. -/
def Obligations.DebounceWaitIsUncancelable : Prop :=
  ∀ s s' : State, Sound s → s.ks = .debounce → step s = .next s' →
    (s'.t = s.t + 1 ∧ debounceCyclesLeft s' + 1 = debounceCyclesLeft s ∨
      s'.t = s.t ∧ debounceCyclesLeft s' = debounceCyclesLeft s) ∧
    (s'.ks = .debounce ↔ 0 < debounceCyclesLeft s') ∧
    (debounceCyclesLeft s' = 0 → s'.ks = .rows ∧ s'.tDeb.run = false)

/-! ## The display refresher -/

/-- R192: `DSP.LOAD`. -/
def Obligations.DisplayLoadTick : Prop :=
  ∀ (s : State) (k : KeyMatrix), s.tfDisp = true → s.phase = .loadSegments →
    decodeSel (formSel .dsp s) = some (.dspLoad s.activeDigitIndex) ∧
      exec (.dspLoad s.activeDigitIndex) s = .next { s with
      tfDisp := false, digitEn := 0, seg := s.cfg.segTable.read (s.d.read s.activeDigitIndex),
      phase := .enableDigit } ∧
    noted (.dspLoad s.activeDigitIndex) k s = []

/-- R193: `DSP.EN`. Under I8 of R33 the other three bits are 0, so exactly that digit is enabled. -/
def Obligations.DisplayEnableTick : Prop :=
  ∀ (s : State) (k : KeyMatrix), s.tfDisp = true → s.phase = .enableDigit →
    decodeSel (formSel .dsp s) = some (.dspEn s.activeDigitIndex) ∧
      exec (.dspEn s.activeDigitIndex) s = .next { s with
      tfDisp := false, digitEn := s.digitEn ||| (1 : BitVec 4) <<< s.activeDigitIndex.val,
      activeDigitIndex := s.activeDigitIndex + 1, phase := .loadSegments } ∧
    noted (.dspEn s.activeDigitIndex) k s = []

/-- R191 to R194: two ticks show one position: first all digits are off and the pattern of its digit is loaded,
then its enable alone is on with that pattern still on the bus, and the next position is up. -/
def Obligations.TwoTicksShowOnePosition : Prop :=
  ∀ s : State, s.phase = .loadSegments → ∃ t u,
    serve .dsp { s with tfDisp := true } = .next t ∧ t.digitEn = 0 ∧
    t.seg = s.cfg.segTable.read (s.d.read s.activeDigitIndex) ∧
    serve .dsp { t with tfDisp := true } = .next u ∧ u.seg = t.seg ∧
    (∀ j : Position, u.digitEn.getLsbD j.val = decide (j = s.activeDigitIndex)) ∧
    u.activeDigitIndex.val = (s.activeDigitIndex.val + 1) % 4 ∧ u.phase = .loadSegments ∧ u.d = s.d

/-- R194 (which the spec marks derived): in every operation, `seg` changes only in `DSP.LOAD`, which leaves
`digit_en` = 0000, and a bit of `digit_en` is set only in `DSP.EN`, which leaves `seg` alone. -/
def Obligations.SegmentsAndEnablesNeverChangeTogether : Prop :=
  ∀ (i : Instr) (s t : State), exec i s = .next t →
    (t.seg ≠ s.seg → (∃ ii, i = .dspLoad ii) ∧ t.digitEn = 0) ∧
    (∀ j, s.digitEn.getLsbD j = false → t.digitEn.getLsbD j = true →
      (∃ ii, i = .dspEn ii) ∧ t.seg = s.seg)

/-- R190, R4: the refresher writes nothing another component reads. An operation that is neither `CNT` nor of the
class DSP does the same whatever the display state is, and leaves it alone; a DSP operation changes nothing else. -/
def Obligations.DisplayDoesNotInfluenceTheBlock : Prop :=
  ∀ (i : Instr) (s t : State), exec i s = .next t →
    (i.eventClass = some .dsp → maskDisplay t = maskDisplay s) ∧
    (i.eventClass ≠ some .dsp → i ≠ .cnt →
      exec i (maskDisplay s) = .next (maskDisplay t) ∧
      t.activeDigitIndex = s.activeDigitIndex ∧ t.phase = s.phase ∧ t.digitEn = s.digitEn ∧ t.seg = s.seg ∧
      t.tDispCnt = s.tDispCnt ∧ t.tfDisp = s.tfDisp)

/-! ## The reserved rows -/

/-- R92: the reserved selectors have no step. That the stop is a fault of this name is the model's choice
(notes/assumptions/4.md). -/
def Obligations.ReservedSelectorsHaveNoStep : Prop :=
  ∀ s : State, exec .reservedSyn s = .fault .stuckReservedSelector ∧
    exec .reservedKey s = .fault .stuckReservedSelector ∧ exec .reservedEv5 s = .fault .stuckReservedSelector ∧
    exec .reservedEv6 s = .fault .stuckReservedSelector ∧ exec .reservedEv7 s = .fault .stuckReservedSelector

/-! ## Ownership, races, commuting operations -/

/-- R32: the writers of each piece of state, with the conditions that separate them. -/
def Obligations.EachFieldHasItsWriters : Prop :=
  ∀ (i : Instr) (s t : State), Inv s → exec i s = .next t →
    (t.d ≠ s.d → i = .keyColDigit ∧ s.activeFlag = false ∨ i = .deact ∧ s.activeFlag = true) ∧
    (t.activeFlag ≠ s.activeFlag → i.eventClass = some .ctl) ∧
    (t.mode ≠ s.mode ∨ t.chainCount ≠ s.chainCount ∨ t.trimReloadValue ≠ s.trimReloadValue →
      i.eventClass = some .ctl) ∧
    (t.chunkKind ≠ s.chunkKind ∨ t.remainingFullChunks ≠ s.remainingFullChunks →
      i.eventClass = some .ctl ∨ i ∈ [Instr.synLf, .synLr, .synLt]) ∧
    (t.out ≠ s.out ∨ t.ind ≠ s.ind → i ∈ [Instr.synSt, .synLt, .deact]) ∧
    (t.tSyn.cnt ≠ s.tSyn.cnt → i ∈ [Instr.cnt, .actS, .actL, .synSt, .synLr, .synLt]) ∧
    (i = .cnt → s.tfSyn = false) ∧
    (t.tSyn.run ≠ s.tSyn.run → i ∈ [Instr.actS, .actL, .deact]) ∧
    (t.tfSyn = true → s.tfSyn = false → i = .cnt) ∧
    (t.tfSyn = false → s.tfSyn = true → i.eventClass = some .syn ∨ i = .deact) ∧
    (t.ks ≠ s.ks ∨ t.rowLatch ≠ s.rowLatch → i.eventClass = some .key ∨ i = .cnt ∧ s.ks = .debounce) ∧
    (s.ks = .debounce → i.eventClass = some .key → i = .keyWait ∧ t = s) ∧
    (t.debLeft ≠ s.debLeft ∨ t.tDeb ≠ s.tDeb →
      i = .keyColDigit ∧ s.ks = .cols ∧ s.tDeb.run = false ∨ i = .cnt ∧ s.ks = .debounce) ∧
    (t.activeDigitIndex ≠ s.activeDigitIndex ∨ t.phase ≠ s.phase ∨ t.digitEn ≠ s.digitEn ∨ t.seg ≠ s.seg →
      i.eventClass = some .dsp) ∧
    (t.tDispCnt ≠ s.tDispCnt → i = .cnt) ∧
    (t.tfDisp = true → s.tfDisp = false → i = .cnt) ∧
    (t.tfDisp = false → s.tfDisp = true → i.eventClass = some .dsp) ∧
    t.cfg = s.cfg ∧ t.pressed = s.pressed ∧ t.trace = s.trace ∧ t.envCount = s.envCount

/-- R229 (which the spec marks derived): a control edge while a completion is pending deactivates, and whether
the completion is served before it or not the block ends in the same state (but for the stale count of the
stopped timer); an activation never meets a pending completion. -/
def Obligations.EdgeAndPendingCompletionEndAlike : Prop :=
  ∀ s : State, Inv s →
    (s.activeFlag = false → s.tfSyn = false) ∧
    (s.activeFlag = true → s.tfSyn = true →
      ∃ t v u, serve .ctl s = .next t ∧ serve .syn s = .next v ∧ serve .ctl v = .next u ∧
        maskStaleCount u = maskStaleCount t ∧ t.activeFlag = false ∧ t.out = false ∧ t.ind = false ∧
        t.d = ⟨0, 0, 0, 0⟩ ∧ t.mode = .idle ∧ t.tfSyn = false ∧ t.tSyn.run = false)

/-- R230 (which the spec marks derived): the pairs that commute. -/
def Obligations.DisjointOperationsCommute : Prop :=
  (∀ i j : Instr, i.eventClass = some .syn → j.eventClass = some .dsp → OpsCommute i j) ∧
  (∀ i j : Instr, i.eventClass = some .syn → j.eventClass = some .key → OpsCommute i j) ∧
  (∀ i j : Instr, i.eventClass = some .dsp → j.eventClass = some .key →
    ¬((∃ ii, i = .dspLoad ii) ∧ j = .keyColDigit) → OpsCommute i j) ∧
  (∀ (i : Instr) (ii : Position), i.eventClass = some .ctl → OpsCommute i (.dspEn ii)) ∧
  (∀ i : Instr, i.eventClass = some .ctl → OpsCommute i .keyWait)

/-- R230 (which the spec marks derived): the pairs it names that do not commute: `DSP.LOAD` of any position with
`KEY.COL.DIGIT` and with `DEACT`, and each activation with `KEY.COL.DIGIT`. -/
def Obligations.DependentOperationsDoNotCommute : Prop :=
  (∀ ii : Position, ¬ OpsCommute (.dspLoad ii) .keyColDigit ∧ ¬ OpsCommute .deact (.dspLoad ii)) ∧
  ¬ OpsCommute .actZ .keyColDigit ∧ ¬ OpsCommute .actS .keyColDigit ∧ ¬ OpsCommute .actL .keyColDigit

/-! ## Invariants and clocks -/

/-- R260, R33 (which the spec marks derived): the invariants hold in the reset state, for every admissible
parameters. -/
def Obligations.ResetSatisfiesTheInvariants : Prop :=
  Inv State.reset ∧ Sound State.reset ∧ ∀ c : Config, Sound (State.resetWith c)

/-- R33 (which the spec marks derived): the invariants I1 (by the type of a digit) to I9 are kept by every step,
whatever the trace or the environment does. -/
def Obligations.StepKeepsTheInvariants : Prop :=
  ∀ s s' : State, Inv s → step s = .next s' → Inv s'

/-- The ranges of R23, R25, R30, and that a pending flag's counter is at 0 (R225), are kept by every step, with
R33's invariants. -/
def Obligations.StepKeepsTheRanges : Prop :=
  ∀ s s' : State, Sound s → step s = .next s' → Sound s'

/-- R150 (which the spec marks derived): while the engine is idle the output is low and stays low, and no
completion becomes pending. -/
def Obligations.IdleEngineKeepsTheOutputLow : Prop :=
  ∀ s s' : State, Inv s → s.mode = .idle → step s = .next s' →
    s.out = false ∧ s'.out = false ∧ s'.ind = false ∧ s'.tfSyn = false

/-- R118, R124, R147: right after `ACT.S` or `ACT.L` the output is low and the next toggle is one whole realised
half-period away, which is `h`, or with the degenerate reload `ZERO_CHUNK_CYCLES` in SHORT mode and
`h + ZERO_CHUNK_CYCLES` in LONG mode. -/
def Obligations.ActivationStartsALowHalfPeriod : Prop :=
  ∀ (i : Instr) (s t : State) (h : Nat), Inv s → h = halfPeriod s.cfg.toParams (frequency s.d) →
    exec i s = .next t → i = .actS ∨ i = .actL →
    t.out = false ∧ t.ind = false ∧ cyclesToToggle t = realisedHalfPeriod t ∧
    realisedHalfPeriod t =
      (if t.trimReloadValue < t.cfg.timerRange then h
       else if t.mode = .short then t.cfg.zeroChunkCycles else h + t.cfg.zeroChunkCycles)

/-- R147 (which the spec marks derived): under any schedule, while no deactivation occurs, the cycles to the
next toggle fall by one at each `CNT` and at nothing else, and the output toggles exactly when none is left,
after which a whole realised half-period is to go again. -/
def Obligations.OutputTogglesOnTheClock : Prop :=
  ∀ s s' : State, Sound s → s.mode ≠ .idle → step s = .next s' → s'.mode ≠ .idle →
    realisedHalfPeriod s' = realisedHalfPeriod s ∧ s'.ind = s'.out ∧
    (s'.t = s.t + 1 ∧ s'.out = s.out ∧ cyclesToToggle s' + 1 = cyclesToToggle s ∨
     s'.t = s.t ∧ s'.out = s.out ∧ cyclesToToggle s' = cyclesToToggle s ∨
     s'.t = s.t ∧ s'.out = !s.out ∧ cyclesToToggle s = 0 ∧ cyclesToToggle s' = realisedHalfPeriod s)

/-- R147, R97: with the eager schedule the output keeps its level until the clock runs out and toggles exactly
then: from any state with nothing pending, `run k` leaves it for k less than the cycles to go, and `run` of all
of them toggles it once and starts a whole half-period. -/
def Obligations.EagerRunTogglesAfterTheHalfPeriod : Prop :=
  ∀ s : State, Sound s → s.mode ≠ .idle → s.tfSyn = false → s.tfDisp = false →
    0 < cyclesToToggle s ∧
    (∀ k, k < cyclesToToggle s → ∃ u, Machine.run k s = .next u ∧ u.out = s.out ∧ u.t = s.t + k) ∧
    ∃ u, Machine.run (cyclesToToggle s) s = .next u ∧ u.out = !s.out ∧ u.t = s.t + cyclesToToggle s ∧
      u.mode = s.mode ∧ u.tfSyn = false ∧ u.tfDisp = false ∧ cyclesToToggle u = realisedHalfPeriod s
end

