-- ==== Sys2Proof/Laws/State.lean ====
section
/-!
SUPPORT. One lemma per field per named update of the state: what the field holds afterwards. All true by rfl, so
that no later proof unfolds a record update. Lemmas whose right side is the old field are frame lemmas.
-/

namespace Sys2Proof.Machine

/-! ## clearTfSyn -/

@[simp] theorem clearTfSyn_d (s : State) : (clearTfSyn s).d = s.d := rfl
@[simp] theorem clearTfSyn_activeFlag (s : State) : (clearTfSyn s).activeFlag = s.activeFlag := rfl
@[simp] theorem clearTfSyn_chunkKind (s : State) : (clearTfSyn s).chunkKind = s.chunkKind := rfl
@[simp] theorem clearTfSyn_remainingFullChunks (s : State) :
    (clearTfSyn s).remainingFullChunks =
      s.remainingFullChunks := rfl
@[simp] theorem clearTfSyn_trimReloadValue (s : State) : (clearTfSyn s).trimReloadValue = s.trimReloadValue := rfl
@[simp] theorem clearTfSyn_mode (s : State) : (clearTfSyn s).mode = s.mode := rfl
@[simp] theorem clearTfSyn_chainCount (s : State) : (clearTfSyn s).chainCount = s.chainCount := rfl
@[simp] theorem clearTfSyn_out (s : State) : (clearTfSyn s).out = s.out := rfl
@[simp] theorem clearTfSyn_ind (s : State) : (clearTfSyn s).ind = s.ind := rfl
@[simp] theorem clearTfSyn_ks (s : State) : (clearTfSyn s).ks = s.ks := rfl
@[simp] theorem clearTfSyn_rowLatch (s : State) : (clearTfSyn s).rowLatch = s.rowLatch := rfl
@[simp] theorem clearTfSyn_debLeft (s : State) : (clearTfSyn s).debLeft = s.debLeft := rfl
@[simp] theorem clearTfSyn_activeDigitIndex (s : State) : (clearTfSyn s).activeDigitIndex = s.activeDigitIndex := rfl
@[simp] theorem clearTfSyn_phase (s : State) : (clearTfSyn s).phase = s.phase := rfl
@[simp] theorem clearTfSyn_digitEn (s : State) : (clearTfSyn s).digitEn = s.digitEn := rfl
@[simp] theorem clearTfSyn_seg (s : State) : (clearTfSyn s).seg = s.seg := rfl
@[simp] theorem clearTfSyn_tSyn (s : State) : (clearTfSyn s).tSyn = s.tSyn := rfl
@[simp] theorem clearTfSyn_tDeb (s : State) : (clearTfSyn s).tDeb = s.tDeb := rfl
@[simp] theorem clearTfSyn_tDispCnt (s : State) : (clearTfSyn s).tDispCnt = s.tDispCnt := rfl
@[simp] theorem clearTfSyn_tfSyn (s : State) : (clearTfSyn s).tfSyn = false := rfl
@[simp] theorem clearTfSyn_tfDisp (s : State) : (clearTfSyn s).tfDisp = s.tfDisp := rfl
@[simp] theorem clearTfSyn_cfg (s : State) : (clearTfSyn s).cfg = s.cfg := rfl
@[simp] theorem clearTfSyn_t (s : State) : (clearTfSyn s).t = s.t := rfl
@[simp] theorem clearTfSyn_pressed (s : State) : (clearTfSyn s).pressed = s.pressed := rfl
@[simp] theorem clearTfSyn_trace (s : State) : (clearTfSyn s).trace = s.trace := rfl
@[simp] theorem clearTfSyn_envCount (s : State) : (clearTfSyn s).envCount = s.envCount := rfl

/-! ## clearTfDisp -/

@[simp] theorem clearTfDisp_d (s : State) : (clearTfDisp s).d = s.d := rfl
@[simp] theorem clearTfDisp_activeFlag (s : State) : (clearTfDisp s).activeFlag = s.activeFlag := rfl
@[simp] theorem clearTfDisp_chunkKind (s : State) : (clearTfDisp s).chunkKind = s.chunkKind := rfl
@[simp] theorem clearTfDisp_remainingFullChunks (s : State) :
    (clearTfDisp s).remainingFullChunks =
      s.remainingFullChunks := rfl
@[simp] theorem clearTfDisp_trimReloadValue (s : State) : (clearTfDisp s).trimReloadValue = s.trimReloadValue := rfl
@[simp] theorem clearTfDisp_mode (s : State) : (clearTfDisp s).mode = s.mode := rfl
@[simp] theorem clearTfDisp_chainCount (s : State) : (clearTfDisp s).chainCount = s.chainCount := rfl
@[simp] theorem clearTfDisp_out (s : State) : (clearTfDisp s).out = s.out := rfl
@[simp] theorem clearTfDisp_ind (s : State) : (clearTfDisp s).ind = s.ind := rfl
@[simp] theorem clearTfDisp_ks (s : State) : (clearTfDisp s).ks = s.ks := rfl
@[simp] theorem clearTfDisp_rowLatch (s : State) : (clearTfDisp s).rowLatch = s.rowLatch := rfl
@[simp] theorem clearTfDisp_debLeft (s : State) : (clearTfDisp s).debLeft = s.debLeft := rfl
@[simp] theorem clearTfDisp_activeDigitIndex (s : State) :
    (clearTfDisp s).activeDigitIndex =
      s.activeDigitIndex := rfl
@[simp] theorem clearTfDisp_phase (s : State) : (clearTfDisp s).phase = s.phase := rfl
@[simp] theorem clearTfDisp_digitEn (s : State) : (clearTfDisp s).digitEn = s.digitEn := rfl
@[simp] theorem clearTfDisp_seg (s : State) : (clearTfDisp s).seg = s.seg := rfl
@[simp] theorem clearTfDisp_tSyn (s : State) : (clearTfDisp s).tSyn = s.tSyn := rfl
@[simp] theorem clearTfDisp_tDeb (s : State) : (clearTfDisp s).tDeb = s.tDeb := rfl
@[simp] theorem clearTfDisp_tDispCnt (s : State) : (clearTfDisp s).tDispCnt = s.tDispCnt := rfl
@[simp] theorem clearTfDisp_tfSyn (s : State) : (clearTfDisp s).tfSyn = s.tfSyn := rfl
@[simp] theorem clearTfDisp_tfDisp (s : State) : (clearTfDisp s).tfDisp = false := rfl
@[simp] theorem clearTfDisp_cfg (s : State) : (clearTfDisp s).cfg = s.cfg := rfl
@[simp] theorem clearTfDisp_t (s : State) : (clearTfDisp s).t = s.t := rfl
@[simp] theorem clearTfDisp_pressed (s : State) : (clearTfDisp s).pressed = s.pressed := rfl
@[simp] theorem clearTfDisp_trace (s : State) : (clearTfDisp s).trace = s.trace := rfl
@[simp] theorem clearTfDisp_envCount (s : State) : (clearTfDisp s).envCount = s.envCount := rfl

/-! ## toggleLines -/

@[simp] theorem toggleLines_d (s : State) : (toggleLines s).d = s.d := rfl
@[simp] theorem toggleLines_activeFlag (s : State) : (toggleLines s).activeFlag = s.activeFlag := rfl
@[simp] theorem toggleLines_chunkKind (s : State) : (toggleLines s).chunkKind = s.chunkKind := rfl
@[simp] theorem toggleLines_remainingFullChunks (s : State) :
    (toggleLines s).remainingFullChunks =
      s.remainingFullChunks := rfl
@[simp] theorem toggleLines_trimReloadValue (s : State) : (toggleLines s).trimReloadValue = s.trimReloadValue := rfl
@[simp] theorem toggleLines_mode (s : State) : (toggleLines s).mode = s.mode := rfl
@[simp] theorem toggleLines_chainCount (s : State) : (toggleLines s).chainCount = s.chainCount := rfl
@[simp] theorem toggleLines_out (s : State) : (toggleLines s).out = !s.out := rfl
@[simp] theorem toggleLines_ind (s : State) : (toggleLines s).ind = !s.ind := rfl
@[simp] theorem toggleLines_ks (s : State) : (toggleLines s).ks = s.ks := rfl
@[simp] theorem toggleLines_rowLatch (s : State) : (toggleLines s).rowLatch = s.rowLatch := rfl
@[simp] theorem toggleLines_debLeft (s : State) : (toggleLines s).debLeft = s.debLeft := rfl
@[simp] theorem toggleLines_activeDigitIndex (s : State) :
    (toggleLines s).activeDigitIndex =
      s.activeDigitIndex := rfl
@[simp] theorem toggleLines_phase (s : State) : (toggleLines s).phase = s.phase := rfl
@[simp] theorem toggleLines_digitEn (s : State) : (toggleLines s).digitEn = s.digitEn := rfl
@[simp] theorem toggleLines_seg (s : State) : (toggleLines s).seg = s.seg := rfl
@[simp] theorem toggleLines_tSyn (s : State) : (toggleLines s).tSyn = s.tSyn := rfl
@[simp] theorem toggleLines_tDeb (s : State) : (toggleLines s).tDeb = s.tDeb := rfl
@[simp] theorem toggleLines_tDispCnt (s : State) : (toggleLines s).tDispCnt = s.tDispCnt := rfl
@[simp] theorem toggleLines_tfSyn (s : State) : (toggleLines s).tfSyn = s.tfSyn := rfl
@[simp] theorem toggleLines_tfDisp (s : State) : (toggleLines s).tfDisp = s.tfDisp := rfl
@[simp] theorem toggleLines_cfg (s : State) : (toggleLines s).cfg = s.cfg := rfl
@[simp] theorem toggleLines_t (s : State) : (toggleLines s).t = s.t := rfl
@[simp] theorem toggleLines_pressed (s : State) : (toggleLines s).pressed = s.pressed := rfl
@[simp] theorem toggleLines_trace (s : State) : (toggleLines s).trace = s.trace := rfl
@[simp] theorem toggleLines_envCount (s : State) : (toggleLines s).envCount = s.envCount := rfl

/-! ## linesLow -/

@[simp] theorem linesLow_d (s : State) : (linesLow s).d = s.d := rfl
@[simp] theorem linesLow_activeFlag (s : State) : (linesLow s).activeFlag = s.activeFlag := rfl
@[simp] theorem linesLow_chunkKind (s : State) : (linesLow s).chunkKind = s.chunkKind := rfl
@[simp] theorem linesLow_remainingFullChunks (s : State) :
    (linesLow s).remainingFullChunks =
      s.remainingFullChunks := rfl
@[simp] theorem linesLow_trimReloadValue (s : State) : (linesLow s).trimReloadValue = s.trimReloadValue := rfl
@[simp] theorem linesLow_mode (s : State) : (linesLow s).mode = s.mode := rfl
@[simp] theorem linesLow_chainCount (s : State) : (linesLow s).chainCount = s.chainCount := rfl
@[simp] theorem linesLow_out (s : State) : (linesLow s).out = false := rfl
@[simp] theorem linesLow_ind (s : State) : (linesLow s).ind = false := rfl
@[simp] theorem linesLow_ks (s : State) : (linesLow s).ks = s.ks := rfl
@[simp] theorem linesLow_rowLatch (s : State) : (linesLow s).rowLatch = s.rowLatch := rfl
@[simp] theorem linesLow_debLeft (s : State) : (linesLow s).debLeft = s.debLeft := rfl
@[simp] theorem linesLow_activeDigitIndex (s : State) : (linesLow s).activeDigitIndex = s.activeDigitIndex := rfl
@[simp] theorem linesLow_phase (s : State) : (linesLow s).phase = s.phase := rfl
@[simp] theorem linesLow_digitEn (s : State) : (linesLow s).digitEn = s.digitEn := rfl
@[simp] theorem linesLow_seg (s : State) : (linesLow s).seg = s.seg := rfl
@[simp] theorem linesLow_tSyn (s : State) : (linesLow s).tSyn = s.tSyn := rfl
@[simp] theorem linesLow_tDeb (s : State) : (linesLow s).tDeb = s.tDeb := rfl
@[simp] theorem linesLow_tDispCnt (s : State) : (linesLow s).tDispCnt = s.tDispCnt := rfl
@[simp] theorem linesLow_tfSyn (s : State) : (linesLow s).tfSyn = s.tfSyn := rfl
@[simp] theorem linesLow_tfDisp (s : State) : (linesLow s).tfDisp = s.tfDisp := rfl
@[simp] theorem linesLow_cfg (s : State) : (linesLow s).cfg = s.cfg := rfl
@[simp] theorem linesLow_t (s : State) : (linesLow s).t = s.t := rfl
@[simp] theorem linesLow_pressed (s : State) : (linesLow s).pressed = s.pressed := rfl
@[simp] theorem linesLow_trace (s : State) : (linesLow s).trace = s.trace := rfl
@[simp] theorem linesLow_envCount (s : State) : (linesLow s).envCount = s.envCount := rfl

/-! ## setActive -/

@[simp] theorem setActive_d (b : Bool) (s : State) : (setActive b s).d = s.d := rfl
@[simp] theorem setActive_activeFlag (b : Bool) (s : State) : (setActive b s).activeFlag = b := rfl
@[simp] theorem setActive_chunkKind (b : Bool) (s : State) : (setActive b s).chunkKind = s.chunkKind := rfl
@[simp] theorem setActive_remainingFullChunks (b : Bool) (s : State) :
    (setActive b s).remainingFullChunks =
      s.remainingFullChunks := rfl
@[simp] theorem setActive_trimReloadValue (b : Bool) (s : State) :
    (setActive b s).trimReloadValue =
      s.trimReloadValue := rfl
@[simp] theorem setActive_mode (b : Bool) (s : State) : (setActive b s).mode = s.mode := rfl
@[simp] theorem setActive_chainCount (b : Bool) (s : State) : (setActive b s).chainCount = s.chainCount := rfl
@[simp] theorem setActive_out (b : Bool) (s : State) : (setActive b s).out = s.out := rfl
@[simp] theorem setActive_ind (b : Bool) (s : State) : (setActive b s).ind = s.ind := rfl
@[simp] theorem setActive_ks (b : Bool) (s : State) : (setActive b s).ks = s.ks := rfl
@[simp] theorem setActive_rowLatch (b : Bool) (s : State) : (setActive b s).rowLatch = s.rowLatch := rfl
@[simp] theorem setActive_debLeft (b : Bool) (s : State) : (setActive b s).debLeft = s.debLeft := rfl
@[simp] theorem setActive_activeDigitIndex (b : Bool) (s : State) :
    (setActive b s).activeDigitIndex =
      s.activeDigitIndex := rfl
@[simp] theorem setActive_phase (b : Bool) (s : State) : (setActive b s).phase = s.phase := rfl
@[simp] theorem setActive_digitEn (b : Bool) (s : State) : (setActive b s).digitEn = s.digitEn := rfl
@[simp] theorem setActive_seg (b : Bool) (s : State) : (setActive b s).seg = s.seg := rfl
@[simp] theorem setActive_tSyn (b : Bool) (s : State) : (setActive b s).tSyn = s.tSyn := rfl
@[simp] theorem setActive_tDeb (b : Bool) (s : State) : (setActive b s).tDeb = s.tDeb := rfl
@[simp] theorem setActive_tDispCnt (b : Bool) (s : State) : (setActive b s).tDispCnt = s.tDispCnt := rfl
@[simp] theorem setActive_tfSyn (b : Bool) (s : State) : (setActive b s).tfSyn = s.tfSyn := rfl
@[simp] theorem setActive_tfDisp (b : Bool) (s : State) : (setActive b s).tfDisp = s.tfDisp := rfl
@[simp] theorem setActive_cfg (b : Bool) (s : State) : (setActive b s).cfg = s.cfg := rfl
@[simp] theorem setActive_t (b : Bool) (s : State) : (setActive b s).t = s.t := rfl
@[simp] theorem setActive_pressed (b : Bool) (s : State) : (setActive b s).pressed = s.pressed := rfl
@[simp] theorem setActive_trace (b : Bool) (s : State) : (setActive b s).trace = s.trace := rfl
@[simp] theorem setActive_envCount (b : Bool) (s : State) : (setActive b s).envCount = s.envCount := rfl

/-! ## writePlan -/

@[simp] theorem writePlan_d (pl : Plan) (s : State) : (writePlan pl s).d = s.d := rfl
@[simp] theorem writePlan_activeFlag (pl : Plan) (s : State) : (writePlan pl s).activeFlag = s.activeFlag := rfl
@[simp] theorem writePlan_chunkKind (pl : Plan) (s : State) : (writePlan pl s).chunkKind = pl.kind := rfl
@[simp] theorem writePlan_remainingFullChunks (pl : Plan) (s : State) :
    (writePlan pl s).remainingFullChunks =
      pl.chain := rfl
@[simp] theorem writePlan_trimReloadValue (pl : Plan) (s : State) : (writePlan pl s).trimReloadValue = pl.trim := rfl
@[simp] theorem writePlan_mode (pl : Plan) (s : State) : (writePlan pl s).mode = pl.mode := rfl
@[simp] theorem writePlan_chainCount (pl : Plan) (s : State) : (writePlan pl s).chainCount = pl.chain := rfl
@[simp] theorem writePlan_out (pl : Plan) (s : State) : (writePlan pl s).out = s.out := rfl
@[simp] theorem writePlan_ind (pl : Plan) (s : State) : (writePlan pl s).ind = s.ind := rfl
@[simp] theorem writePlan_ks (pl : Plan) (s : State) : (writePlan pl s).ks = s.ks := rfl
@[simp] theorem writePlan_rowLatch (pl : Plan) (s : State) : (writePlan pl s).rowLatch = s.rowLatch := rfl
@[simp] theorem writePlan_debLeft (pl : Plan) (s : State) : (writePlan pl s).debLeft = s.debLeft := rfl
@[simp] theorem writePlan_activeDigitIndex (pl : Plan) (s : State) :
    (writePlan pl s).activeDigitIndex =
      s.activeDigitIndex := rfl
@[simp] theorem writePlan_phase (pl : Plan) (s : State) : (writePlan pl s).phase = s.phase := rfl
@[simp] theorem writePlan_digitEn (pl : Plan) (s : State) : (writePlan pl s).digitEn = s.digitEn := rfl
@[simp] theorem writePlan_seg (pl : Plan) (s : State) : (writePlan pl s).seg = s.seg := rfl
@[simp] theorem writePlan_tSyn (pl : Plan) (s : State) : (writePlan pl s).tSyn = s.tSyn := rfl
@[simp] theorem writePlan_tDeb (pl : Plan) (s : State) : (writePlan pl s).tDeb = s.tDeb := rfl
@[simp] theorem writePlan_tDispCnt (pl : Plan) (s : State) : (writePlan pl s).tDispCnt = s.tDispCnt := rfl
@[simp] theorem writePlan_tfSyn (pl : Plan) (s : State) : (writePlan pl s).tfSyn = s.tfSyn := rfl
@[simp] theorem writePlan_tfDisp (pl : Plan) (s : State) : (writePlan pl s).tfDisp = s.tfDisp := rfl
@[simp] theorem writePlan_cfg (pl : Plan) (s : State) : (writePlan pl s).cfg = s.cfg := rfl
@[simp] theorem writePlan_t (pl : Plan) (s : State) : (writePlan pl s).t = s.t := rfl
@[simp] theorem writePlan_pressed (pl : Plan) (s : State) : (writePlan pl s).pressed = s.pressed := rfl
@[simp] theorem writePlan_trace (pl : Plan) (s : State) : (writePlan pl s).trace = s.trace := rfl
@[simp] theorem writePlan_envCount (pl : Plan) (s : State) : (writePlan pl s).envCount = s.envCount := rfl

/-! ## configureSyn -/

@[simp] theorem configureSyn_d (r : Nat) (s : State) : (configureSyn r s).d = s.d := rfl
@[simp] theorem configureSyn_activeFlag (r : Nat) (s : State) : (configureSyn r s).activeFlag = s.activeFlag := rfl
@[simp] theorem configureSyn_chunkKind (r : Nat) (s : State) : (configureSyn r s).chunkKind = s.chunkKind := rfl
@[simp] theorem configureSyn_remainingFullChunks (r : Nat) (s : State) :
    (configureSyn r s).remainingFullChunks =
      s.remainingFullChunks := rfl
@[simp] theorem configureSyn_trimReloadValue (r : Nat) (s : State) :
    (configureSyn r s).trimReloadValue =
      s.trimReloadValue := rfl
@[simp] theorem configureSyn_mode (r : Nat) (s : State) : (configureSyn r s).mode = s.mode := rfl
@[simp] theorem configureSyn_chainCount (r : Nat) (s : State) : (configureSyn r s).chainCount = s.chainCount := rfl
@[simp] theorem configureSyn_out (r : Nat) (s : State) : (configureSyn r s).out = s.out := rfl
@[simp] theorem configureSyn_ind (r : Nat) (s : State) : (configureSyn r s).ind = s.ind := rfl
@[simp] theorem configureSyn_ks (r : Nat) (s : State) : (configureSyn r s).ks = s.ks := rfl
@[simp] theorem configureSyn_rowLatch (r : Nat) (s : State) : (configureSyn r s).rowLatch = s.rowLatch := rfl
@[simp] theorem configureSyn_debLeft (r : Nat) (s : State) : (configureSyn r s).debLeft = s.debLeft := rfl
@[simp] theorem configureSyn_activeDigitIndex (r : Nat) (s : State) :
    (configureSyn r s).activeDigitIndex =
      s.activeDigitIndex := rfl
@[simp] theorem configureSyn_phase (r : Nat) (s : State) : (configureSyn r s).phase = s.phase := rfl
@[simp] theorem configureSyn_digitEn (r : Nat) (s : State) : (configureSyn r s).digitEn = s.digitEn := rfl
@[simp] theorem configureSyn_seg (r : Nat) (s : State) : (configureSyn r s).seg = s.seg := rfl
@[simp] theorem configureSyn_tSyn (r : Nat) (s : State) :
    (configureSyn r s).tSyn =
      s.tSyn.configure s.cfg.toParams r := rfl
@[simp] theorem configureSyn_tDeb (r : Nat) (s : State) : (configureSyn r s).tDeb = s.tDeb := rfl
@[simp] theorem configureSyn_tDispCnt (r : Nat) (s : State) : (configureSyn r s).tDispCnt = s.tDispCnt := rfl
@[simp] theorem configureSyn_tfSyn (r : Nat) (s : State) : (configureSyn r s).tfSyn = s.tfSyn := rfl
@[simp] theorem configureSyn_tfDisp (r : Nat) (s : State) : (configureSyn r s).tfDisp = s.tfDisp := rfl
@[simp] theorem configureSyn_cfg (r : Nat) (s : State) : (configureSyn r s).cfg = s.cfg := rfl
@[simp] theorem configureSyn_t (r : Nat) (s : State) : (configureSyn r s).t = s.t := rfl
@[simp] theorem configureSyn_pressed (r : Nat) (s : State) : (configureSyn r s).pressed = s.pressed := rfl
@[simp] theorem configureSyn_trace (r : Nat) (s : State) : (configureSyn r s).trace = s.trace := rfl
@[simp] theorem configureSyn_envCount (r : Nat) (s : State) : (configureSyn r s).envCount = s.envCount := rfl

/-! ## startSyn -/

@[simp] theorem startSyn_d (s : State) : (startSyn s).d = s.d := rfl
@[simp] theorem startSyn_activeFlag (s : State) : (startSyn s).activeFlag = s.activeFlag := rfl
@[simp] theorem startSyn_chunkKind (s : State) : (startSyn s).chunkKind = s.chunkKind := rfl
@[simp] theorem startSyn_remainingFullChunks (s : State) :
    (startSyn s).remainingFullChunks =
      s.remainingFullChunks := rfl
@[simp] theorem startSyn_trimReloadValue (s : State) : (startSyn s).trimReloadValue = s.trimReloadValue := rfl
@[simp] theorem startSyn_mode (s : State) : (startSyn s).mode = s.mode := rfl
@[simp] theorem startSyn_chainCount (s : State) : (startSyn s).chainCount = s.chainCount := rfl
@[simp] theorem startSyn_out (s : State) : (startSyn s).out = s.out := rfl
@[simp] theorem startSyn_ind (s : State) : (startSyn s).ind = s.ind := rfl
@[simp] theorem startSyn_ks (s : State) : (startSyn s).ks = s.ks := rfl
@[simp] theorem startSyn_rowLatch (s : State) : (startSyn s).rowLatch = s.rowLatch := rfl
@[simp] theorem startSyn_debLeft (s : State) : (startSyn s).debLeft = s.debLeft := rfl
@[simp] theorem startSyn_activeDigitIndex (s : State) : (startSyn s).activeDigitIndex = s.activeDigitIndex := rfl
@[simp] theorem startSyn_phase (s : State) : (startSyn s).phase = s.phase := rfl
@[simp] theorem startSyn_digitEn (s : State) : (startSyn s).digitEn = s.digitEn := rfl
@[simp] theorem startSyn_seg (s : State) : (startSyn s).seg = s.seg := rfl
@[simp] theorem startSyn_tSyn (s : State) : (startSyn s).tSyn = s.tSyn.start := rfl
@[simp] theorem startSyn_tDeb (s : State) : (startSyn s).tDeb = s.tDeb := rfl
@[simp] theorem startSyn_tDispCnt (s : State) : (startSyn s).tDispCnt = s.tDispCnt := rfl
@[simp] theorem startSyn_tfSyn (s : State) : (startSyn s).tfSyn = s.tfSyn := rfl
@[simp] theorem startSyn_tfDisp (s : State) : (startSyn s).tfDisp = s.tfDisp := rfl
@[simp] theorem startSyn_cfg (s : State) : (startSyn s).cfg = s.cfg := rfl
@[simp] theorem startSyn_t (s : State) : (startSyn s).t = s.t := rfl
@[simp] theorem startSyn_pressed (s : State) : (startSyn s).pressed = s.pressed := rfl
@[simp] theorem startSyn_trace (s : State) : (startSyn s).trace = s.trace := rfl
@[simp] theorem startSyn_envCount (s : State) : (startSyn s).envCount = s.envCount := rfl

/-! ## stopSyn -/

@[simp] theorem stopSyn_d (s : State) : (stopSyn s).d = s.d := rfl
@[simp] theorem stopSyn_activeFlag (s : State) : (stopSyn s).activeFlag = s.activeFlag := rfl
@[simp] theorem stopSyn_chunkKind (s : State) : (stopSyn s).chunkKind = s.chunkKind := rfl
@[simp] theorem stopSyn_remainingFullChunks (s : State) :
    (stopSyn s).remainingFullChunks =
      s.remainingFullChunks := rfl
@[simp] theorem stopSyn_trimReloadValue (s : State) : (stopSyn s).trimReloadValue = s.trimReloadValue := rfl
@[simp] theorem stopSyn_mode (s : State) : (stopSyn s).mode = s.mode := rfl
@[simp] theorem stopSyn_chainCount (s : State) : (stopSyn s).chainCount = s.chainCount := rfl
@[simp] theorem stopSyn_out (s : State) : (stopSyn s).out = s.out := rfl
@[simp] theorem stopSyn_ind (s : State) : (stopSyn s).ind = s.ind := rfl
@[simp] theorem stopSyn_ks (s : State) : (stopSyn s).ks = s.ks := rfl
@[simp] theorem stopSyn_rowLatch (s : State) : (stopSyn s).rowLatch = s.rowLatch := rfl
@[simp] theorem stopSyn_debLeft (s : State) : (stopSyn s).debLeft = s.debLeft := rfl
@[simp] theorem stopSyn_activeDigitIndex (s : State) : (stopSyn s).activeDigitIndex = s.activeDigitIndex := rfl
@[simp] theorem stopSyn_phase (s : State) : (stopSyn s).phase = s.phase := rfl
@[simp] theorem stopSyn_digitEn (s : State) : (stopSyn s).digitEn = s.digitEn := rfl
@[simp] theorem stopSyn_seg (s : State) : (stopSyn s).seg = s.seg := rfl
@[simp] theorem stopSyn_tSyn (s : State) : (stopSyn s).tSyn = s.tSyn.stop := rfl
@[simp] theorem stopSyn_tDeb (s : State) : (stopSyn s).tDeb = s.tDeb := rfl
@[simp] theorem stopSyn_tDispCnt (s : State) : (stopSyn s).tDispCnt = s.tDispCnt := rfl
@[simp] theorem stopSyn_tfSyn (s : State) : (stopSyn s).tfSyn = s.tfSyn := rfl
@[simp] theorem stopSyn_tfDisp (s : State) : (stopSyn s).tfDisp = s.tfDisp := rfl
@[simp] theorem stopSyn_cfg (s : State) : (stopSyn s).cfg = s.cfg := rfl
@[simp] theorem stopSyn_t (s : State) : (stopSyn s).t = s.t := rfl
@[simp] theorem stopSyn_pressed (s : State) : (stopSyn s).pressed = s.pressed := rfl
@[simp] theorem stopSyn_trace (s : State) : (stopSyn s).trace = s.trace := rfl
@[simp] theorem stopSyn_envCount (s : State) : (stopSyn s).envCount = s.envCount := rfl

/-! ## startDebounce -/

@[simp] theorem startDebounce_d (s : State) : (startDebounce s).d = s.d := rfl
@[simp] theorem startDebounce_activeFlag (s : State) : (startDebounce s).activeFlag = s.activeFlag := rfl
@[simp] theorem startDebounce_chunkKind (s : State) : (startDebounce s).chunkKind = s.chunkKind := rfl
@[simp] theorem startDebounce_remainingFullChunks (s : State) :
    (startDebounce s).remainingFullChunks =
      s.remainingFullChunks := rfl
@[simp] theorem startDebounce_trimReloadValue (s : State) :
    (startDebounce s).trimReloadValue =
      s.trimReloadValue := rfl
@[simp] theorem startDebounce_mode (s : State) : (startDebounce s).mode = s.mode := rfl
@[simp] theorem startDebounce_chainCount (s : State) : (startDebounce s).chainCount = s.chainCount := rfl
@[simp] theorem startDebounce_out (s : State) : (startDebounce s).out = s.out := rfl
@[simp] theorem startDebounce_ind (s : State) : (startDebounce s).ind = s.ind := rfl
@[simp] theorem startDebounce_ks (s : State) : (startDebounce s).ks = .debounce := rfl
@[simp] theorem startDebounce_rowLatch (s : State) : (startDebounce s).rowLatch = s.rowLatch := rfl
@[simp] theorem startDebounce_debLeft (s : State) : (startDebounce s).debLeft = Config.debounceSpans := rfl
@[simp] theorem startDebounce_activeDigitIndex (s : State) :
    (startDebounce s).activeDigitIndex =
      s.activeDigitIndex := rfl
@[simp] theorem startDebounce_phase (s : State) : (startDebounce s).phase = s.phase := rfl
@[simp] theorem startDebounce_digitEn (s : State) : (startDebounce s).digitEn = s.digitEn := rfl
@[simp] theorem startDebounce_seg (s : State) : (startDebounce s).seg = s.seg := rfl
@[simp] theorem startDebounce_tSyn (s : State) : (startDebounce s).tSyn = s.tSyn := rfl
@[simp] theorem startDebounce_tDeb (s : State) :
    (startDebounce s).tDeb =
      (s.tDeb.configure s.cfg.toParams 0).start := rfl
@[simp] theorem startDebounce_tDispCnt (s : State) : (startDebounce s).tDispCnt = s.tDispCnt := rfl
@[simp] theorem startDebounce_tfSyn (s : State) : (startDebounce s).tfSyn = s.tfSyn := rfl
@[simp] theorem startDebounce_tfDisp (s : State) : (startDebounce s).tfDisp = s.tfDisp := rfl
@[simp] theorem startDebounce_cfg (s : State) : (startDebounce s).cfg = s.cfg := rfl
@[simp] theorem startDebounce_t (s : State) : (startDebounce s).t = s.t := rfl
@[simp] theorem startDebounce_pressed (s : State) : (startDebounce s).pressed = s.pressed := rfl
@[simp] theorem startDebounce_trace (s : State) : (startDebounce s).trace = s.trace := rfl
@[simp] theorem startDebounce_envCount (s : State) : (startDebounce s).envCount = s.envCount := rfl

/-! ## backToRows -/

@[simp] theorem backToRows_d (s : State) : (backToRows s).d = s.d := rfl
@[simp] theorem backToRows_activeFlag (s : State) : (backToRows s).activeFlag = s.activeFlag := rfl
@[simp] theorem backToRows_chunkKind (s : State) : (backToRows s).chunkKind = s.chunkKind := rfl
@[simp] theorem backToRows_remainingFullChunks (s : State) :
    (backToRows s).remainingFullChunks =
      s.remainingFullChunks := rfl
@[simp] theorem backToRows_trimReloadValue (s : State) : (backToRows s).trimReloadValue = s.trimReloadValue := rfl
@[simp] theorem backToRows_mode (s : State) : (backToRows s).mode = s.mode := rfl
@[simp] theorem backToRows_chainCount (s : State) : (backToRows s).chainCount = s.chainCount := rfl
@[simp] theorem backToRows_out (s : State) : (backToRows s).out = s.out := rfl
@[simp] theorem backToRows_ind (s : State) : (backToRows s).ind = s.ind := rfl
@[simp] theorem backToRows_ks (s : State) : (backToRows s).ks = .rows := rfl
@[simp] theorem backToRows_rowLatch (s : State) : (backToRows s).rowLatch = s.rowLatch := rfl
@[simp] theorem backToRows_debLeft (s : State) : (backToRows s).debLeft = s.debLeft := rfl
@[simp] theorem backToRows_activeDigitIndex (s : State) : (backToRows s).activeDigitIndex = s.activeDigitIndex := rfl
@[simp] theorem backToRows_phase (s : State) : (backToRows s).phase = s.phase := rfl
@[simp] theorem backToRows_digitEn (s : State) : (backToRows s).digitEn = s.digitEn := rfl
@[simp] theorem backToRows_seg (s : State) : (backToRows s).seg = s.seg := rfl
@[simp] theorem backToRows_tSyn (s : State) : (backToRows s).tSyn = s.tSyn := rfl
@[simp] theorem backToRows_tDeb (s : State) : (backToRows s).tDeb = s.tDeb := rfl
@[simp] theorem backToRows_tDispCnt (s : State) : (backToRows s).tDispCnt = s.tDispCnt := rfl
@[simp] theorem backToRows_tfSyn (s : State) : (backToRows s).tfSyn = s.tfSyn := rfl
@[simp] theorem backToRows_tfDisp (s : State) : (backToRows s).tfDisp = s.tfDisp := rfl
@[simp] theorem backToRows_cfg (s : State) : (backToRows s).cfg = s.cfg := rfl
@[simp] theorem backToRows_t (s : State) : (backToRows s).t = s.t := rfl
@[simp] theorem backToRows_pressed (s : State) : (backToRows s).pressed = s.pressed := rfl
@[simp] theorem backToRows_trace (s : State) : (backToRows s).trace = s.trace := rfl
@[simp] theorem backToRows_envCount (s : State) : (backToRows s).envCount = s.envCount := rfl

/-! ## countSyn -/

@[simp] theorem countSyn_d (s : State) : (countSyn s).d = s.d := rfl
@[simp] theorem countSyn_activeFlag (s : State) : (countSyn s).activeFlag = s.activeFlag := rfl
@[simp] theorem countSyn_chunkKind (s : State) : (countSyn s).chunkKind = s.chunkKind := rfl
@[simp] theorem countSyn_remainingFullChunks (s : State) :
    (countSyn s).remainingFullChunks =
      s.remainingFullChunks := rfl
@[simp] theorem countSyn_trimReloadValue (s : State) : (countSyn s).trimReloadValue = s.trimReloadValue := rfl
@[simp] theorem countSyn_mode (s : State) : (countSyn s).mode = s.mode := rfl
@[simp] theorem countSyn_chainCount (s : State) : (countSyn s).chainCount = s.chainCount := rfl
@[simp] theorem countSyn_out (s : State) : (countSyn s).out = s.out := rfl
@[simp] theorem countSyn_ind (s : State) : (countSyn s).ind = s.ind := rfl
@[simp] theorem countSyn_ks (s : State) : (countSyn s).ks = s.ks := rfl
@[simp] theorem countSyn_rowLatch (s : State) : (countSyn s).rowLatch = s.rowLatch := rfl
@[simp] theorem countSyn_debLeft (s : State) : (countSyn s).debLeft = s.debLeft := rfl
@[simp] theorem countSyn_activeDigitIndex (s : State) : (countSyn s).activeDigitIndex = s.activeDigitIndex := rfl
@[simp] theorem countSyn_phase (s : State) : (countSyn s).phase = s.phase := rfl
@[simp] theorem countSyn_digitEn (s : State) : (countSyn s).digitEn = s.digitEn := rfl
@[simp] theorem countSyn_seg (s : State) : (countSyn s).seg = s.seg := rfl
@[simp] theorem countSyn_tSyn (s : State) : (countSyn s).tSyn = s.tSyn.count s.cfg.timerRange := rfl
@[simp] theorem countSyn_tDeb (s : State) : (countSyn s).tDeb = s.tDeb := rfl
@[simp] theorem countSyn_tDispCnt (s : State) : (countSyn s).tDispCnt = s.tDispCnt := rfl
@[simp] theorem countSyn_tfSyn (s : State) :
    (countSyn s).tfSyn =
      if s.tSyn.completes s.cfg.timerRange then true else s.tfSyn := rfl
@[simp] theorem countSyn_tfDisp (s : State) : (countSyn s).tfDisp = s.tfDisp := rfl
@[simp] theorem countSyn_cfg (s : State) : (countSyn s).cfg = s.cfg := rfl
@[simp] theorem countSyn_t (s : State) : (countSyn s).t = s.t := rfl
@[simp] theorem countSyn_pressed (s : State) : (countSyn s).pressed = s.pressed := rfl
@[simp] theorem countSyn_trace (s : State) : (countSyn s).trace = s.trace := rfl
@[simp] theorem countSyn_envCount (s : State) : (countSyn s).envCount = s.envCount := rfl

/-! ## countDeb -/

@[simp] theorem countDeb_d (s : State) : (countDeb s).d = s.d := rfl
@[simp] theorem countDeb_activeFlag (s : State) : (countDeb s).activeFlag = s.activeFlag := rfl
@[simp] theorem countDeb_chunkKind (s : State) : (countDeb s).chunkKind = s.chunkKind := rfl
@[simp] theorem countDeb_remainingFullChunks (s : State) :
    (countDeb s).remainingFullChunks =
      s.remainingFullChunks := rfl
@[simp] theorem countDeb_trimReloadValue (s : State) : (countDeb s).trimReloadValue = s.trimReloadValue := rfl
@[simp] theorem countDeb_mode (s : State) : (countDeb s).mode = s.mode := rfl
@[simp] theorem countDeb_chainCount (s : State) : (countDeb s).chainCount = s.chainCount := rfl
@[simp] theorem countDeb_out (s : State) : (countDeb s).out = s.out := rfl
@[simp] theorem countDeb_ind (s : State) : (countDeb s).ind = s.ind := rfl
@[simp] theorem countDeb_ks (s : State) : (countDeb s).ks = if debounceEnds s then .rows else s.ks := rfl
@[simp] theorem countDeb_rowLatch (s : State) : (countDeb s).rowLatch = s.rowLatch := rfl
@[simp] theorem countDeb_debLeft (s : State) :
    (countDeb s).debLeft =
      if s.tDeb.completes s.cfg.timerRange then s.debLeft - 1 else s.debLeft := rfl
@[simp] theorem countDeb_activeDigitIndex (s : State) : (countDeb s).activeDigitIndex = s.activeDigitIndex := rfl
@[simp] theorem countDeb_phase (s : State) : (countDeb s).phase = s.phase := rfl
@[simp] theorem countDeb_digitEn (s : State) : (countDeb s).digitEn = s.digitEn := rfl
@[simp] theorem countDeb_seg (s : State) : (countDeb s).seg = s.seg := rfl
@[simp] theorem countDeb_tSyn (s : State) : (countDeb s).tSyn = s.tSyn := rfl
@[simp] theorem countDeb_tDeb (s : State) :
    (countDeb s).tDeb =
      if debounceEnds s then (s.tDeb.count s.cfg.timerRange).stop else s.tDeb.count s.cfg.timerRange := rfl
@[simp] theorem countDeb_tDispCnt (s : State) : (countDeb s).tDispCnt = s.tDispCnt := rfl
@[simp] theorem countDeb_tfSyn (s : State) : (countDeb s).tfSyn = s.tfSyn := rfl
@[simp] theorem countDeb_tfDisp (s : State) : (countDeb s).tfDisp = s.tfDisp := rfl
@[simp] theorem countDeb_cfg (s : State) : (countDeb s).cfg = s.cfg := rfl
@[simp] theorem countDeb_t (s : State) : (countDeb s).t = s.t := rfl
@[simp] theorem countDeb_pressed (s : State) : (countDeb s).pressed = s.pressed := rfl
@[simp] theorem countDeb_trace (s : State) : (countDeb s).trace = s.trace := rfl
@[simp] theorem countDeb_envCount (s : State) : (countDeb s).envCount = s.envCount := rfl

/-! ## countDisp -/

@[simp] theorem countDisp_d (s : State) : (countDisp s).d = s.d := rfl
@[simp] theorem countDisp_activeFlag (s : State) : (countDisp s).activeFlag = s.activeFlag := rfl
@[simp] theorem countDisp_chunkKind (s : State) : (countDisp s).chunkKind = s.chunkKind := rfl
@[simp] theorem countDisp_remainingFullChunks (s : State) :
    (countDisp s).remainingFullChunks =
      s.remainingFullChunks := rfl
@[simp] theorem countDisp_trimReloadValue (s : State) : (countDisp s).trimReloadValue = s.trimReloadValue := rfl
@[simp] theorem countDisp_mode (s : State) : (countDisp s).mode = s.mode := rfl
@[simp] theorem countDisp_chainCount (s : State) : (countDisp s).chainCount = s.chainCount := rfl
@[simp] theorem countDisp_out (s : State) : (countDisp s).out = s.out := rfl
@[simp] theorem countDisp_ind (s : State) : (countDisp s).ind = s.ind := rfl
@[simp] theorem countDisp_ks (s : State) : (countDisp s).ks = s.ks := rfl
@[simp] theorem countDisp_rowLatch (s : State) : (countDisp s).rowLatch = s.rowLatch := rfl
@[simp] theorem countDisp_debLeft (s : State) : (countDisp s).debLeft = s.debLeft := rfl
@[simp] theorem countDisp_activeDigitIndex (s : State) : (countDisp s).activeDigitIndex = s.activeDigitIndex := rfl
@[simp] theorem countDisp_phase (s : State) : (countDisp s).phase = s.phase := rfl
@[simp] theorem countDisp_digitEn (s : State) : (countDisp s).digitEn = s.digitEn := rfl
@[simp] theorem countDisp_seg (s : State) : (countDisp s).seg = s.seg := rfl
@[simp] theorem countDisp_tSyn (s : State) : (countDisp s).tSyn = s.tSyn := rfl
@[simp] theorem countDisp_tDeb (s : State) : (countDisp s).tDeb = s.tDeb := rfl
@[simp] theorem countDisp_tDispCnt (s : State) :
    (countDisp s).tDispCnt =
      if displayTicks s then 0 else s.tDispCnt + 1 := rfl
@[simp] theorem countDisp_tfSyn (s : State) : (countDisp s).tfSyn = s.tfSyn := rfl
@[simp] theorem countDisp_tfDisp (s : State) : (countDisp s).tfDisp = if displayTicks s then true else s.tfDisp := rfl
@[simp] theorem countDisp_cfg (s : State) : (countDisp s).cfg = s.cfg := rfl
@[simp] theorem countDisp_t (s : State) : (countDisp s).t = s.t := rfl
@[simp] theorem countDisp_pressed (s : State) : (countDisp s).pressed = s.pressed := rfl
@[simp] theorem countDisp_trace (s : State) : (countDisp s).trace = s.trace := rfl
@[simp] theorem countDisp_envCount (s : State) : (countDisp s).envCount = s.envCount := rfl

end Sys2Proof.Machine
end

