-- ==== Sys2Proof/Laws/Ops.lean ====
section
/-!
SUPPORT. For each shared operation, once, what it can do: the admissibility facts a `Config` carries, the
channel commands, the scan, the digit store, the answer of `perform`.
-/

namespace Sys2Proof

/-! ## What a configuration carries (R269) -/

theorem Config.admissible_parts (c : Config) :
    c.timerRangeOk = true ∧ c.cycleOk = true ∧ c.zeroChunkOk = true ∧ c.chainBitsOk = true ∧
      c.keyMapOk = true ∧ c.dispPeriodOk = true := by
  have h := c.ok
  simp only [Params.admissible, Bool.and_eq_true] at h
  tauto

theorem Config.two_le_timerRange (c : Config) : 2 ≤ c.timerRange := by
  have h := c.admissible_parts.1
  simp only [Params.timerRangeOk, Bool.and_eq_true, decide_eq_true_eq] at h
  exact h.1

theorem Config.cycle_pos (c : Config) : 0 < c.cycleNum ∧ 0 < c.cycleDen := by
  simpa [Params.cycleOk] using c.admissible_parts.2.1

theorem Config.zeroChunk_range (c : Config) : 1 ≤ c.zeroChunkCycles ∧ c.zeroChunkCycles ≤ c.timerRange := by
  simpa [Params.zeroChunkOk] using c.admissible_parts.2.2.1

theorem Config.nMax_lt (c : Config) : c.nMax < 2 ^ c.chainBits := by
  simpa [Params.chainBitsOk] using c.admissible_parts.2.2.2.1

theorem Config.dispPeriod_pos (c : Config) : 1 ≤ c.dispPeriod := by
  simpa [Params.dispPeriodOk] using c.admissible_parts.2.2.2.2.2

theorem Config.keyMap_total (c : Config) (v : Digit) : some v ∈ c.keyMap.entries := by
  have h := c.admissible_parts.2.2.2.2.1
  simp only [Params.keyMapOk, Bool.and_eq_true, decide_eq_true_eq] at h
  exact h.2 v

/-! ## Channels -/

/-- R38, R36 (a), (d): the count a configure stores, and how far it is from the wrap. -/
theorem reloadCount_spec (c : Config) (r : Nat) :
    reloadCount c.toParams r < c.timerRange ∧
      c.timerRange - reloadCount c.toParams r = (if r < c.timerRange then c.timerRange - r else c.zeroChunkCycles) := by
  have h1 := c.two_le_timerRange
  have h2 := c.zeroChunk_range
  unfold reloadCount
  split <;> constructor <;> omega

theorem reloadCount_zero (c : Config) : reloadCount c.toParams 0 = 0 := by
  have h1 := c.two_le_timerRange
  unfold reloadCount
  rw [if_pos (by omega)]

@[simp] theorem Channel.configure_run (p : Params) (r : Nat) (c : Channel) : (c.configure p r).run = c.run := rfl
@[simp] theorem Channel.configure_cnt (p : Params) (r : Nat) (c : Channel) :
    (c.configure p r).cnt = reloadCount p r := rfl
@[simp] theorem Channel.start_run (c : Channel) : c.start.run = true := rfl
@[simp] theorem Channel.start_cnt (c : Channel) : c.start.cnt = c.cnt := rfl
@[simp] theorem Channel.stop_run (c : Channel) : c.stop.run = false := rfl
@[simp] theorem Channel.stop_cnt (c : Channel) : c.stop.cnt = c.cnt := rfl

@[simp] theorem Channel.count_run (m : Nat) (c : Channel) : (c.count m).run = c.run := by
  unfold Channel.count; split <;> rfl

/-- One count of a channel (R41): stopped it keeps its count, running it wraps or counts up. -/
theorem Channel.count_cases (m : Nat) (c : Channel) :
    (c.run = false ∧ c.count m = c ∧ c.completes m = false) ∨
    (c.run = true ∧ c.cnt = m - 1 ∧ c.count m = { c with cnt := 0 } ∧ c.completes m = true) ∨
    (c.run = true ∧ c.cnt ≠ m - 1 ∧ c.count m = { c with cnt := c.cnt + 1 } ∧ c.completes m = false) := by
  by_cases hr : c.run = true
  · by_cases hc : c.cnt = m - 1
    · exact .inr (.inl ⟨hr, hc, by simp [Channel.count, hr, hc], by simp [Channel.completes, hr, hc]⟩)
    · exact .inr (.inr ⟨hr, hc, by simp [Channel.count, hr, hc], by simp [Channel.completes, hr, hc]⟩)
  · have hr' : c.run = false := by simpa using hr
    exact .inl ⟨hr', by simp [Channel.count, hr'], by simp [Channel.completes, hr']⟩

theorem Channel.count_lt {m : Nat} {c : Channel} (h : c.cnt < m) : (c.count m).cnt < m := by
  rcases c.count_cases m with ⟨-, e, -⟩ | ⟨-, -, e, -⟩ | ⟨-, hn, e, -⟩ <;> rw [e] <;> (try simp only) <;> omega

/-! ## DigitBuffer and the plan -/

@[simp] theorem DigitBuffer.shiftIn_d0 (v : Digit) (d : DigitBuffer) : (d.shiftIn v).d0 = d.d1 := rfl
@[simp] theorem DigitBuffer.shiftIn_d1 (v : Digit) (d : DigitBuffer) : (d.shiftIn v).d1 = d.d2 := rfl
@[simp] theorem DigitBuffer.shiftIn_d2 (v : Digit) (d : DigitBuffer) : (d.shiftIn v).d2 = d.d3 := rfl
@[simp] theorem DigitBuffer.shiftIn_d3 (v : Digit) (d : DigitBuffer) : (d.shiftIn v).d3 = v := rfl

@[simp] theorem Plan.idle_mode : Plan.idle.mode = .idle := rfl
@[simp] theorem Plan.idle_kind : Plan.idle.kind = .full := rfl
@[simp] theorem Plan.idle_chain : Plan.idle.chain = 0 := rfl
@[simp] theorem Plan.idle_trim : Plan.idle.trim = 0 := rfl
@[simp] theorem Plan.short_mode (p : Params) (h : Nat) : (Plan.short p h).mode = .short := rfl
@[simp] theorem Plan.short_kind (p : Params) (h : Nat) : (Plan.short p h).kind = .trim := rfl
@[simp] theorem Plan.short_chain (p : Params) (h : Nat) : (Plan.short p h).chain = 0 := rfl
@[simp] theorem Plan.short_trim (p : Params) (h : Nat) : (Plan.short p h).trim = p.timerRange - h := rfl
@[simp] theorem Plan.long_mode (p : Params) (h : Nat) : (Plan.long p h).mode = .long := rfl
@[simp] theorem Plan.long_kind (p : Params) (h : Nat) : (Plan.long p h).kind = .full := rfl
@[simp] theorem Plan.long_chain (p : Params) (h : Nat) : (Plan.long p h).chain = chainOf p h := rfl
@[simp] theorem Plan.long_trim (p : Params) (h : Nat) :
    (Plan.long p h).trim = p.timerRange - (h - (chainOf p h + 1) * p.timerRange) := rfl

/-! ## The scan -/

/-- Phase 1 finds no row exactly when no row reports. -/
theorem rowFound_isSome (m : KeyMatrix) :
    (rowFound m).isSome = (rowReports m 0 || rowReports m 1 || rowReports m 2 || rowReports m 3) := by
  unfold rowFound
  cases rowReports m 0 <;> cases rowReports m 1 <;> cases rowReports m 2 <;> cases rowReports m 3 <;> rfl

/-- Phase 2 finds a column exactly when the latched row reports. -/
theorem colFound_isSome (m : KeyMatrix) (r : KeyRow) : (colFound m r).isSome = rowReports m r := by
  unfold colFound rowReports
  cases m.read r 0 <;> cases m.read r 1 <;> cases m.read r 2 <;> rfl

/-- A digit is found only where a key is found. -/
theorem digitFound_isSome_imp (k : KeyMap) (m : KeyMatrix) (r : KeyRow)
    (h : (digitFound k m r).isSome = true) : (colFound m r).isSome = true := by
  unfold digitFound at h
  cases hc : colFound m r with
  | none => simp [hc] at h
  | some c => rfl

theorem rowReports_of_read {m : KeyMatrix} {r : KeyRow} {c : KeyCol} (h : m.read r c = true) :
    rowReports m r = true := by
  unfold rowReports; fin_cases c <;> simp_all

theorem rowReports_eq_false {m : KeyMatrix} {r : KeyRow} (h : ∀ c, m.read r c = false) : rowReports m r = false := by
  simp [rowReports, h]

/-- Phase 1 finds the lowest row with a key down (R163). -/
theorem rowFound_eq_some {m : KeyMatrix} {r : KeyRow} (h1 : rowReports m r = true)
    (h2 : ∀ r', r' < r → rowReports m r' = false) : rowFound m = some r := by
  unfold rowFound
  fin_cases r
  · simp_all
  · have := h2 0 (by decide); simp_all
  · have := h2 0 (by decide); have := h2 1 (by decide); simp_all
  · have := h2 0 (by decide); have := h2 1 (by decide); have := h2 2 (by decide); simp_all

/-- Phase 2 finds the lowest column down in the latched row (R166). -/
theorem colFound_eq_some {m : KeyMatrix} {r : KeyRow} {c : KeyCol} (h1 : m.read r c = true)
    (h2 : ∀ c', c' < c → m.read r c' = false) : colFound m r = some c := by
  unfold colFound
  fin_cases c
  · simp_all
  · have := h2 0 (by decide); simp_all
  · have := h2 0 (by decide); have := h2 1 (by decide); simp_all

namespace Machine

/-! ## Answering -/

@[simp] theorem perform_true (t : State) : perform true true t = .next t := rfl
@[simp] theorem perform_not_enabled (b : Bool) (t : State) : perform false b t = .refused .notEnabled := rfl
@[simp] theorem perform_not_selected (t : State) : perform true false t = .refused .notSelected := rfl

/-- `perform` answers a next state exactly when the class is enabled and the operation selected. -/
theorem perform_next_iff {e b : Bool} {a t : State} : perform e b a = .next t ↔ e = true ∧ b = true ∧ t = a := by
  cases e <;> cases b <;> simp [perform, eq_comm]

@[simp] theorem enabled_ctl (s : State) : enabled .ctl s = true := rfl
@[simp] theorem enabled_key (s : State) : enabled .key s = true := rfl
@[simp] theorem enabled_syn (s : State) : enabled .syn s = s.tfSyn := rfl
@[simp] theorem enabled_dsp (s : State) : enabled .dsp s = s.tfDisp := rfl
@[simp] theorem enabled_cnt (s : State) : enabled .cnt s = (!s.tfSyn && !s.tfDisp) := rfl

/-- Every enabled class is in the list, and only those (R224). -/
theorem mem_enabledClasses {c : EventClass} {s : State} : c ∈ enabledClasses s ↔ enabled c s = true := by
  cases c <;> simp [enabledClasses]

end Machine
end Sys2Proof
end

