-- ==== Sys2Proof/Laws/Meaning.lean ====
section
/-!
SUPPORT. What each operation can do, once: it answers a next state exactly when its class is enabled (R224) and
it is the one selected (R89), and which state that is. Later proofs cite these and unfold no meaning.
-/

namespace Sys2Proof.Machine

variable {s t : State}

theorem execCnt_next_iff : execCnt s = .next t ↔ (s.tfSyn = false ∧ s.tfDisp = false) ∧ t = cntEffect s := by
  simp [execCnt, perform_next_iff]

theorem execActZ_next_iff :
    execActZ s = .next t ↔ (s.activeFlag = false ∧ freqNow s = 0) ∧ t = activate Plan.idle s := by
  simp [execActZ, perform_next_iff]

theorem execActS_next_iff :
    execActS s = .next t ↔
      (s.activeFlag = false ∧ freqNow s ≠ 0 ∧ halfNow s ≤ s.cfg.timerRange) ∧
      t = startSyn (configureSyn (s.cfg.timerRange - halfNow s)
            (activate (Plan.short s.cfg.toParams (halfNow s)) s)) := by
  simp only [execActS, perform_next_iff, enabled_ctl, Bool.and_eq_true, Bool.not_eq_true', decide_eq_true_eq, true_and, and_assoc, Plan.short_trim]

theorem execActL_next_iff :
    execActL s = .next t ↔
      (s.activeFlag = false ∧ freqNow s ≠ 0 ∧ s.cfg.timerRange < halfNow s) ∧
      t = startSyn (configureSyn 0 (activate (Plan.long s.cfg.toParams (halfNow s)) s)) := by
  simp only [execActL, perform_next_iff, enabled_ctl, Bool.and_eq_true, Bool.not_eq_true', decide_eq_true_eq, true_and, and_assoc]

theorem execDeact_next_iff : execDeact s = .next t ↔ s.activeFlag = true ∧ t = deactEffect s := by
  simp [execDeact, perform_next_iff]

theorem execSynNop_next_iff :
    execSynNop s = .next t ↔ (s.tfSyn = true ∧ s.mode = .idle) ∧ t = clearTfSyn s := by
  simp [execSynNop, perform_next_iff, and_assoc]

theorem execSynSt_next_iff :
    execSynSt s = .next t ↔
      (s.tfSyn = true ∧ s.mode = .short) ∧
      t = configureSyn s.trimReloadValue (toggleLines (clearTfSyn s)) := by
  simp [execSynSt, perform_next_iff, and_assoc]

theorem execSynLf_next_iff :
    execSynLf s = .next t ↔
      (s.tfSyn = true ∧ s.mode = .long ∧ s.chunkKind = .full ∧ 0 < s.remainingFullChunks) ∧
      t = { clearTfSyn s with remainingFullChunks := s.remainingFullChunks - 1 } := by
  simp [execSynLf, perform_next_iff, selNZ, and_assoc]

theorem execSynLr_next_iff :
    execSynLr s = .next t ↔
      (s.tfSyn = true ∧ s.mode = .long ∧ s.chunkKind = .full ∧ s.remainingFullChunks = 0) ∧
      t = { configureSyn s.trimReloadValue (clearTfSyn s) with chunkKind := .trim } := by
  simp [execSynLr, perform_next_iff, selNZ, and_assoc]

theorem execSynLt_next_iff :
    execSynLt s = .next t ↔
      (s.tfSyn = true ∧ s.mode = .long ∧ s.chunkKind = .trim) ∧
      t = { configureSyn 0 (toggleLines (clearTfSyn s)) with
            remainingFullChunks := s.chainCount, chunkKind := .full } := by
  simp [execSynLt, perform_next_iff, and_assoc]

theorem execKeyIdle_next_iff :
    execKeyIdle s = .next t ↔ (s.activeFlag = true ∧ s.ks = .rows) ∧ t = s := by
  simp [execKeyIdle, perform_next_iff, and_assoc]

theorem execKeyDrop_next_iff :
    execKeyDrop s = .next t ↔ (s.activeFlag = true ∧ s.ks = .cols) ∧ t = backToRows s := by
  simp [execKeyDrop, perform_next_iff, and_assoc]

theorem execKeyRowMiss_next_iff :
    execKeyRowMiss s = .next t ↔ (s.activeFlag = false ∧ s.ks = .rows ∧ rowFound s.pressed = none) ∧ t = s := by
  simp [execKeyRowMiss, perform_next_iff, and_assoc]

theorem execKeyRowHit_next_iff :
    execKeyRowHit s = .next t ↔
      ∃ r, (s.activeFlag = false ∧ s.ks = .rows ∧ rowFound s.pressed = some r) ∧
        t = { s with rowLatch := r, ks := .cols } := by
  unfold execKeyRowHit
  cases h : rowFound s.pressed <;> simp [perform_next_iff, and_assoc]

theorem execKeyColMiss_next_iff :
    execKeyColMiss s = .next t ↔
      (s.activeFlag = false ∧ s.ks = .cols ∧ colFound s.pressed s.rowLatch = none) ∧ t = backToRows s := by
  simp [execKeyColMiss, perform_next_iff, and_assoc]

theorem execKeyColUnused_next_iff :
    execKeyColUnused s = .next t ↔
      (s.activeFlag = false ∧ s.ks = .cols ∧ (colFound s.pressed s.rowLatch).isSome = true ∧
        digitFound s.cfg.keyMap s.pressed s.rowLatch = none) ∧ t = backToRows s := by
  simp [execKeyColUnused, perform_next_iff, and_assoc]

theorem execKeyColDigit_next_iff :
    execKeyColDigit s = .next t ↔
      ∃ v, (s.activeFlag = false ∧ s.ks = .cols ∧
          digitFound s.cfg.keyMap s.pressed s.rowLatch = some v) ∧
        t = startDebounce { s with d := s.d.shiftIn v } := by
  unfold execKeyColDigit
  cases h : digitFound s.cfg.keyMap s.pressed s.rowLatch <;> simp [perform_next_iff, and_assoc]

theorem execKeyWait_next_iff : execKeyWait s = .next t ↔ s.ks = .debounce ∧ t = s := by
  simp [execKeyWait, perform_next_iff]

theorem execDspLoad_next_iff {ii : Position} :
    execDspLoad ii s = .next t ↔
      (s.tfDisp = true ∧ s.phase = .loadSegments ∧ ii = s.activeDigitIndex) ∧
      t = { clearTfDisp s with
            digitEn := 0, seg := s.cfg.segTable.read (s.d.read s.activeDigitIndex), phase := .enableDigit } := by
  simp [execDspLoad, perform_next_iff, and_assoc]

theorem execDspEn_next_iff {ii : Position} :
    execDspEn ii s = .next t ↔
      (s.tfDisp = true ∧ s.phase = .enableDigit ∧ ii = s.activeDigitIndex) ∧
      t = { clearTfDisp s with
            digitEn := s.digitEn ||| enableBit s.activeDigitIndex,
            activeDigitIndex := s.activeDigitIndex + 1, phase := .loadSegments } := by
  simp [execDspEn, perform_next_iff, and_assoc]

/-- No reserved row answers a next state (R92). -/
theorem stuck_ne_next : stuck s ≠ .next t := by simp [stuck]

end Sys2Proof.Machine
end

