-- ==== Sys2Proof/Laws/Selection.lean ====
section
/-!
SUPPORT. The selector words R90 forms, by class, and the operation each decodes to (R89). The lemmas say so for
every value of the fields, reachable or not.
-/

namespace Sys2Proof

theorem decodeSel_cntWord : decodeSel (EventClass.code .cnt ++ (0 : BitVec 5)) = some .cnt := by decide

theorem decodeSel_ctlWord (a z l : Bool) :
    decodeSel (EventClass.code .ctl ++ (bit a ++ bit z ++ bit l ++ (0 : BitVec 2))) =
      some (if a then .deact else if z then .actZ else if l then .actL else .actS) := by
  revert a z l; decide

theorem decodeSel_synWord (m : Mode) (k : ChunkKind) (nz : Bool) :
    decodeSel (EventClass.code .syn ++ ((0 : BitVec 1) ++ Mode.code m ++ ChunkKind.code k ++ bit nz)) =
      some (match m, k with
        | .idle, _ => .synNop
        | .short, _ => .synSt
        | .long, .trim => .synLt
        | .long, .full => if nz then .synLf else .synLr) := by
  cases m <;> cases k <;> cases nz <;> decide

theorem decodeSel_keyWord (a : Bool) (k : KeyState) (h g : Bool) :
    decodeSel (EventClass.code .key ++ (bit a ++ KeyState.code k ++ bit h ++ bit g)) =
      some (match k with
        | .debounce => .keyWait
        | .rows => if a then .keyIdle else if h then .keyRowHit else .keyRowMiss
        | .cols => if a then .keyDrop else if h then (if g then .keyColDigit else .keyColUnused) else .keyColMiss) := by
  cases a <;> cases k <;> cases h <;> cases g <;> decide

theorem decodeSel_dspWord (p : Phase) (i : Position) :
    decodeSel (EventClass.code .dsp ++ ((0 : BitVec 2) ++ Phase.code p ++ BitVec.ofNat 2 i.val)) =
      some (match p with
        | .loadSegments => .dspLoad i
        | .enableDigit => .dspEn i) := by
  cases p <;> revert i <;> decide

/-- Every selector word matches exactly one row of the table (R89, R92). -/
theorem table_unambiguous (w : Sel) : (table.filter (Row.hits w)).length = 1 := by
  revert w; decide

end Sys2Proof
end

