-- ==== Sys2Proof/Laws/Events.lean ====
section
/-!
SUPPORT. From events to operations, once: which operation the selector R90 forms selects, by class; that an event
served is that operation performed; that the free schedule picks an enabled class; and what a step can do.
-/

namespace Sys2Proof.Machine

/-! ## The operation selected, by class (R89, R90) -/

theorem decodeSel_formSel_cnt (s : State) : decodeSel (formSel .cnt s) = some .cnt := decodeSel_cntWord

theorem decodeSel_formSel_ctl (s : State) :
    decodeSel (formSel .ctl s) =
      some (if s.activeFlag then .deact else if selZ s then .actZ else if selL s then .actL else .actS) :=
  decodeSel_ctlWord _ _ _

theorem decodeSel_formSel_syn (s : State) :
    decodeSel (formSel .syn s) =
      some (match s.mode, s.chunkKind with
        | .idle, _ => .synNop
        | .short, _ => .synSt
        | .long, .trim => .synLt
        | .long, .full => if selNZ s then .synLf else .synLr) :=
  decodeSel_synWord _ _ _

theorem decodeSel_formSel_key (s : State) :
    decodeSel (formSel .key s) =
      some (match s.ks with
        | .debounce => .keyWait
        | .rows => if s.activeFlag then .keyIdle else if selH s then .keyRowHit else .keyRowMiss
        | .cols =>
          if s.activeFlag then .keyDrop
          else if selH s then (if selG s then .keyColDigit else .keyColUnused) else .keyColMiss) :=
  decodeSel_keyWord _ _ _ _

theorem decodeSel_formSel_dsp (s : State) :
    decodeSel (formSel .dsp s) =
      some (match s.phase with
        | .loadSegments => .dspLoad s.activeDigitIndex
        | .enableDigit => .dspEn s.activeDigitIndex) :=
  decodeSel_dspWord _ _

/-- An event served is the selected operation performed. -/
theorem serve_eq_exec {c : EventClass} {s : State} {i : Instr} (h : decodeSel (formSel c s) = some i) :
    serve c s = exec i s := by
  simp [serve, dispatch, h]

/-- Reading one selector word leaves nothing over. -/
theorem decode_singleton {w : Sel} {i : Instr} : decode [w] = .ok (i, []) ↔ decodeSel w = some i := by
  simp only [decode]; cases decodeSel w <;> simp

/-- The free schedule only picks enabled classes (R224). -/
theorem enabled_chosenClass (ch : Choice) (s : State) : enabled (chosenClass ch s) s = true := by
  rw [← mem_enabledClasses]
  have hl : 0 < (enabledClasses s).length := List.length_pos_of_mem (mem_enabledClasses.2 (enabled_ctl s))
  unfold chosenClass
  rw [List.getD_eq_getElem _ _ (Nat.mod_lt _ hl)]
  exact List.getElem_mem _

/-! ## What a step can do -/

/-- A state with other key lines, trace and count of choices, which the operations do not write. -/
def withOutside (m : KeyMatrix) (tr : List TraceItem) (n : Nat) (s : State) : State :=
  { s with pressed := m, trace := tr, envCount := n }

/-- A dispatched word that answers a next state performed an operation. -/
theorem dispatch_cases {w : Sel} {s s' : State} (h : dispatch w s = .next s') : ∃ i, exec i s = .next s' := by
  unfold dispatch at h
  split at h
  · exact ⟨_, h⟩
  · cases h

/-- Everything a step can do: it changes what is outside the block (the key lines, the trace, the count of
choices) and then performs at most one operation. -/
theorem step_cases {s s' : State} (h : step s = .next s') :
    ∃ m tr n, s' = withOutside m tr n s ∨ ∃ i, exec i (withOutside m tr n s) = .next s' := by
  unfold step fetch at h
  split at h
  · rename_i item rest ht
    cases item with
    | event c => exact ⟨s.pressed, rest, s.envCount, .inr (dispatch_cases h)⟩
    | keys m => exact ⟨m, rest, s.envCount, .inl (by cases h; rfl)⟩
    | selector w => exact ⟨s.pressed, rest, s.envCount, .inr (dispatch_cases h)⟩
  · exact ⟨_, s.trace, _, .inr (dispatch_cases h)⟩

end Sys2Proof.Machine
end

