-- ==== Sys2Proof/Laws/PerInstr.lean ====
section
/-!
SUPPORT. The family `MatchesItsRow`: the canonical selector of an operation has the fixed bits its row of
spec/opcode_table.json gives. The masks and match values are written out here from that file, apart from the
decoder's own table.
-/

namespace Sys2Proof.Laws

/-- The row's mask and match in spec/opcode_table.json. -/
def MatchesItsRow.maskMatch : Instr → Sel × Sel
  | .cnt => (0xE0, 0x00)
  | .actZ => (0xF8, 0x28)
  | .actS => (0xFC, 0x20)
  | .actL => (0xFC, 0x24)
  | .deact => (0xF0, 0x30)
  | .synNop => (0xEC, 0x40)
  | .synSt => (0xEC, 0x44)
  | .synLf => (0xEF, 0x49)
  | .synLr => (0xEF, 0x48)
  | .synLt => (0xEE, 0x4A)
  | .keyIdle => (0xFC, 0x70)
  | .keyDrop => (0xFC, 0x74)
  | .keyRowMiss => (0xFE, 0x60)
  | .keyRowHit => (0xFE, 0x62)
  | .keyColMiss => (0xFE, 0x64)
  | .keyColUnused => (0xFF, 0x66)
  | .keyColDigit => (0xFF, 0x67)
  | .keyWait => (0xEC, 0x68)
  | .dspLoad _ => (0xE4, 0x80)
  | .dspEn _ => (0xE4, 0x84)
  | .reservedSyn => (0xEC, 0x4C)
  | .reservedKey => (0xEC, 0x6C)
  | .reservedEv5 => (0xE0, 0xA0)
  | .reservedEv6 => (0xE0, 0xC0)
  | .reservedEv7 => (0xE0, 0xE0)

/-- The canonical selector matches the operation's own row. -/
def MatchesItsRow.Statement (i : Instr) : Prop :=
  encodeSel i &&& (MatchesItsRow.maskMatch i).1 = (MatchesItsRow.maskMatch i).2

theorem MatchesItsRow.cnt : MatchesItsRow.Statement .cnt := rfl
theorem MatchesItsRow.actZ : MatchesItsRow.Statement .actZ := rfl
theorem MatchesItsRow.actS : MatchesItsRow.Statement .actS := rfl
theorem MatchesItsRow.actL : MatchesItsRow.Statement .actL := rfl
theorem MatchesItsRow.deact : MatchesItsRow.Statement .deact := rfl
theorem MatchesItsRow.synNop : MatchesItsRow.Statement .synNop := rfl
theorem MatchesItsRow.synSt : MatchesItsRow.Statement .synSt := rfl
theorem MatchesItsRow.synLf : MatchesItsRow.Statement .synLf := rfl
theorem MatchesItsRow.synLr : MatchesItsRow.Statement .synLr := rfl
theorem MatchesItsRow.synLt : MatchesItsRow.Statement .synLt := rfl
theorem MatchesItsRow.keyIdle : MatchesItsRow.Statement .keyIdle := rfl
theorem MatchesItsRow.keyDrop : MatchesItsRow.Statement .keyDrop := rfl
theorem MatchesItsRow.keyRowMiss : MatchesItsRow.Statement .keyRowMiss := rfl
theorem MatchesItsRow.keyRowHit : MatchesItsRow.Statement .keyRowHit := rfl
theorem MatchesItsRow.keyColMiss : MatchesItsRow.Statement .keyColMiss := rfl
theorem MatchesItsRow.keyColUnused : MatchesItsRow.Statement .keyColUnused := rfl
theorem MatchesItsRow.keyColDigit : MatchesItsRow.Statement .keyColDigit := rfl
theorem MatchesItsRow.keyWait : MatchesItsRow.Statement .keyWait := rfl
theorem MatchesItsRow.dspLoad (ii : Position) : MatchesItsRow.Statement (.dspLoad ii) := by
  revert ii; unfold MatchesItsRow.Statement; decide
theorem MatchesItsRow.dspEn (ii : Position) : MatchesItsRow.Statement (.dspEn ii) := by
  revert ii; unfold MatchesItsRow.Statement; decide
theorem MatchesItsRow.reservedSyn : MatchesItsRow.Statement .reservedSyn := rfl
theorem MatchesItsRow.reservedKey : MatchesItsRow.Statement .reservedKey := rfl
theorem MatchesItsRow.reservedEv5 : MatchesItsRow.Statement .reservedEv5 := rfl
theorem MatchesItsRow.reservedEv6 : MatchesItsRow.Statement .reservedEv6 := rfl
theorem MatchesItsRow.reservedEv7 : MatchesItsRow.Statement .reservedEv7 := rfl

end Sys2Proof.Laws
end

