-- ==== Sys2Proof/Laws/Trace.lean ====
section
/-!
SUPPORT. The trace notation of R96 and R97, once: sequencing, the key of a digit, and where `enter` may stand.
-/

namespace Sys2Proof.Machine

theorem andThen_next_iff {o : Host.Outcome State Fault Refusal} {k : State → Host.Outcome State Fault Refusal}
    {u : State} : andThen o k = .next u ↔ ∃ t, o = .next t ∧ k t = .next u := by
  cases o <;> simp [andThen]

@[simp] theorem matrixOf_read (r r' : KeyRow) (c c' : KeyCol) :
    (matrixOf [(r, c)]).read r' c' = decide (r' = r ∧ c' = c) := by
  revert r r' c c'; decide

/-- Every digit has its key in an admissible `KEYMAP` (R269), and that key alone is what `enter` holds. -/
theorem keysFor_spec (c : Config) (v : Digit) :
    ∃ p : KeyRow × KeyCol, keyFor c.keyMap v = some p ∧ c.keyMap.read p.1 p.2 = some v ∧
      keysFor c.keyMap v = matrixOf [p] := by
  have hm := c.keyMap_total v
  have he : c.keyMap.entries = keyPositions.map fun p => c.keyMap.read p.1 p.2 := rfl
  rw [he, List.mem_map] at hm
  obtain ⟨q, hq, hv⟩ := hm
  cases hf : keyFor c.keyMap v with
  | none =>
    rw [keyFor, List.find?_eq_none] at hf
    exact absurd (by simp [hv]) (hf q hq)
  | some p => exact ⟨p, rfl, by simpa using List.find?_some hf, by simp [keysFor, hf]⟩

theorem enterAllowed_iff {s : State} : enterAllowed s = true ↔ s.activeFlag = false ∧ s.ks = .rows := by
  simp [enterAllowed]

/-- Where `enter` may not stand the trace is ill-formed (R96, R97): neither its keys nor its run is played. -/
theorem enter_ill_formed {s : State} (v : Digit) (h : enterAllowed s = false) :
    enterKeys v s = .refused .illFormedItem ∧ play (.enter v) s = .refused .illFormedItem := by
  have hk : enterKeys v s = .refused .illFormedItem := by simp [enterKeys, h]
  exact ⟨hk, by simp [play, hk, andThen]⟩

/-- Everything the keys of `enter` can do: they answer a next state only where `enter` may stand, and then it is
two key steps with the digit's key down. -/
theorem enterKeys_next_iff {s u : State} (v : Digit) :
    enterKeys v s = .next u ↔ (s.activeFlag = false ∧ s.ks = .rows) ∧
      ∃ t₁ t₂, serve .key { s with pressed := keysFor s.cfg.keyMap v } = .next t₁ ∧ serve .key t₁ = .next t₂ ∧
        u = { t₂ with pressed := noKeys } := by
  rw [← enterAllowed_iff]
  by_cases h : enterAllowed s = true
  · simp only [enterKeys, h, if_true, true_and, andThen_next_iff, playItem, Host.Outcome.next.injEq]
    constructor
    · rintro ⟨t₂, ⟨t₁, ⟨_, rfl, h₁⟩, h₂⟩, rfl⟩; exact ⟨t₁, t₂, h₁, h₂, rfl⟩
    · rintro ⟨t₁, t₂, h₁, h₂, rfl⟩; exact ⟨t₂, ⟨t₁, ⟨_, rfl, h₁⟩, h₂⟩, rfl⟩
  · simp [enterKeys, h]

end Sys2Proof.Machine
end

