-- ==== Sys2Proof/Tests/Slice0.lean ====
section
/-!
SUPPORT. The model's own tests: the well-formedness checks refuse what they must, selector words written out from
the patterns of R89 decode to their operations, one or two steps per operation with results taken from
spec/95_test_vectors.md (the vector's id stands before each), and a witness for every statement that has
hypotheses (`witness_<statement>`): a concrete state and operands that meet all of them together.
-/

namespace Sys2Proof.Tests

open Sys2Proof.Machine

/-! ## Helpers -/

/-- The answer is a next state with the property. -/
def nextThat (o : Host.Outcome State Fault Refusal) (p : State → Bool) : Bool :=
  match o with
  | .next s => p s
  | _ => false

/-- What `nextThat` says. -/
theorem nextThat_iff {o : Host.Outcome State Fault Refusal} {p : State → Bool} :
    nextThat o p = true ↔ ∃ s, o = .next s ∧ p s = true := by
  cases o <;> simp [nextThat]

/-- The reset state with the parameters of spec/95_test_vectors.md section 0. -/
def start : State := State.resetWith Config.example

/-- The same with another `OVERHEAD`, for the rows of V-DEC. -/
def overheadConfig (n : Nat) (h : ({ Config.exampleParams with overhead := n } : Params).admissible = true) : Config :=
  { Config.exampleParams with overhead := n, ok := h }

/-- Engine running in SHORT mode at 1234 Hz, in the low half-period, completion pending (V-SYN-02). -/
def shortPending : State :=
  { start with
    activeFlag := true, d := ⟨1, 2, 3, 4⟩, mode := .short, chunkKind := .trim, trimReloadValue := 65131,
    tSyn := ⟨0, true⟩, tfSyn := true }

/-- Engine running in LONG mode at 1 Hz, a FULL chunk completed and pending, `rem` more to come (V-SYN-06). -/
def longPending (rem : Nat) : State :=
  { start with
    activeFlag := true, d := ⟨0, 0, 0, 1⟩, mode := .long, remainingFullChunks := rem, chainCount := 6,
    trimReloadValue := 24288, tSyn := ⟨0, true⟩, tfSyn := true }

/-- The same with the TRIM chunk completed and pending (V-SYN-10). -/
def trimPending : State := { longPending 0 with chunkKind := .trim }

/-- Inactive, phase 2 of a scan with row `r` latched and the listed keys down. -/
def scanning (r : KeyRow) (ps : List (KeyRow × KeyCol)) : State :=
  { start with ks := .cols, rowLatch := r, pressed := matrixOf ps }

/-- In the debounce wait with `n` spans left and `T_DEB` at `c`. -/
def waiting (n : BitVec 3) (c : Nat) : State := { start with ks := .debounce, debLeft := n, tDeb := ⟨c, true⟩ }

/-! ## Well-formedness: an ill-formed term for each check, which the check refuses -/

theorem test_reserved_operations_ill_formed :
    ([Instr.reservedSyn, .reservedKey, .reservedEv5, .reservedEv6, .reservedEv7].map Instr.wellFormed) =
      [false, false, false, false, false] := by decide

theorem test_reserved_selectors_ill_formed :
    ([0x4C, 0x6C, 0x7C, 0xA0, 0xC0, 0xE0].map fun w => TraceItem.wellFormed (.selector w)) =
      [false, false, false, false, false, false] := by decide

theorem test_unreserved_items_well_formed :
    TraceItem.wellFormed (.selector 0x87) = true ∧ TraceItem.wellFormed (.event .syn) = true ∧
      TraceItem.wellFormed (.keys noKeys) = true ∧ Instr.wellFormed (.dspEn 3) = true := by decide

/-- R269: `TIMER_RANGE` no power of two, and below 2. -/
theorem test_timer_range_refused :
    ({ Config.exampleParams with timerRange := 65535 } : Params).timerRangeOk = false ∧
      ({ Config.exampleParams with timerRange := 1 } : Params).timerRangeOk = false ∧
      ({ Config.exampleParams with timerRange := 0 } : Params).timerRangeOk = false := by decide

theorem test_cycle_refused :
    ({ Config.exampleParams with cycleNum := 0 } : Params).cycleOk = false ∧
      ({ Config.exampleParams with cycleDen := 0 } : Params).cycleOk = false := by decide

theorem test_zero_chunk_refused :
    ({ Config.exampleParams with zeroChunkCycles := 0 } : Params).zeroChunkOk = false ∧
      ({ Config.exampleParams with zeroChunkCycles := 65537 } : Params).zeroChunkOk = false ∧
      ({ Config.exampleParams with zeroChunkCycles := 65536 } : Params).zeroChunkOk = true := by decide

/-- With `CYCLE_US` = 1 and `OVERHEAD` = 0, `N_MAX` = 6 (R121), so three bits do and two do not. -/
theorem test_chain_bits_refused :
    ({ Config.exampleParams with chainBits := 2 } : Params).chainBitsOk = false ∧
      ({ Config.exampleParams with chainBits := 3 } : Params).chainBitsOk = true := by decide

/-- A layout with eleven digits, and one in which 1 occurs twice and 2 not at all. -/
theorem test_key_map_refused :
    ({ Config.exampleParams with
        keyMap := { Config.exampleParams.keyMap with r3 := ⟨some 5, some 0, none⟩ } } : Params).keyMapOk = false ∧
      ({ Config.exampleParams with
        keyMap := { Config.exampleParams.keyMap with r0 := ⟨some 1, some 1, some 3⟩ } } : Params).keyMapOk = false := by
  decide

theorem test_disp_period_refused :
    ({ Config.exampleParams with dispPeriod := 0 } : Params).dispPeriodOk = false ∧
      ({ Config.exampleParams with dispPeriod := 0 } : Params).admissible = false := by decide

/-! ## Decoding: words written out from the patterns of R89, an operand bit of 1 where a pattern ignores it -/

theorem test_decode_cnt : decode [0b00010101#8] = .ok (.cnt, []) := by decide

theorem test_decode_ctl :
    [0b00101111#8, 0b00100011#8, 0b00100110#8, 0b00111111#8].map decodeSel =
      [some .actZ, some .actS, some .actL, some .deact] := by decide

theorem test_decode_syn :
    [0b01010011#8, 0b01000110#8, 0b01011001#8, 0b01001000#8, 0b01001011#8].map decodeSel =
      [some .synNop, some .synSt, some .synLf, some .synLr, some .synLt] := by decide

theorem test_decode_key :
    [0b01110011#8, 0b01110100#8, 0b01100001#8, 0b01100010#8, 0b01100101#8, 0b01100110#8, 0b01100111#8,
      0b01111000#8].map decodeSel =
      [some .keyIdle, some .keyDrop, some .keyRowMiss, some .keyRowHit, some .keyColMiss, some .keyColUnused,
        some .keyColDigit, some .keyWait] := by decide

theorem test_decode_dsp :
    [0b10011001#8, 0b10000110#8].map decodeSel = [some (.dspLoad 1), some (.dspEn 2)] := by decide

theorem test_decode_reserved :
    [0b01011111#8, 0b01101101#8, 0b10100000#8, 0b11011111#8, 0b11111111#8].map decodeSel =
      [some .reservedSyn, some .reservedKey, some .reservedEv5, some .reservedEv6, some .reservedEv7] := by decide

theorem test_decode_refuses_other_widths :
    decodeTableWord 16 0x00 = none ∧ decodeTableWord 8 0x100 = none ∧ decode [] = .error .noByte := by decide

/-- V-SEL-02 to -04, -08, -17, -19, -21: the selector formed. -/
theorem test_form_sel :
    formSel .ctl start = 0x28 ∧ formSel .ctl { start with d := ⟨0, 0, 0, 8⟩ } = 0x20 ∧
      formSel .ctl { start with d := ⟨0, 0, 0, 7⟩ } = 0x24 ∧ formSel .syn (longPending 3) = 0x49 ∧
      formSel .key (scanning 3 [(3, 1)]) = 0x67 ∧ formSel .key { waiting 3 0 with activeFlag := true } = 0x78 ∧
      formSel .dsp { start with phase := .enableDigit, activeDigitIndex := 3 } = 0x87 := by decide

/-- R81, R64: [1,2,3,4] packs to 0x1234; codes 10..15 are no digits. -/
theorem test_packed :
    DigitBuffer.packed ⟨1, 2, 3, 4⟩ = 0x1234 ∧ DigitBuffer.ofPacked 0x9065 = some ⟨9, 0, 6, 5⟩ ∧
      DigitBuffer.ofPacked 0x1A34 = none ∧ trimReloadCode 65536 = 0x10000 := by decide

/-! ## The operations -/

/-- V-CNT-09: both timers complete in the same cycle. -/
theorem test_cnt_two_completions :
    nextThat (serve .cnt { start with tSyn := ⟨65535, true⟩, tDispCnt := 99 })
      (fun t => t.tfSyn && t.tfDisp && t.tSyn == ⟨0, true⟩ && t.tDispCnt == 0) = true := by decide

/-- V-CNT-07 and V-CNT-06: the last span ends the wait, an earlier one does not. -/
theorem test_cnt_debounce_spans :
    nextThat (serve .cnt (waiting 1 65535)) (fun t => t.ks == .rows && t.debLeft == 0 && t.tDeb == ⟨0, false⟩) = true ∧
      nextThat (serve .cnt (waiting 6 65535))
        (fun t => t.ks == .debounce && t.debLeft == 5 && t.tDeb == ⟨0, true⟩) = true := by decide

/-- V-CTL-01. -/
theorem test_actZ :
    nextThat (serve .ctl start)
      (fun t => t.activeFlag && t.mode == .idle && t.tSyn == ⟨0, false⟩ && !t.out) = true := by decide

/-- V-DEC-35: a half-period of exactly `TIMER_RANGE` is SHORT with reload value 0. -/
theorem test_actS_boundary :
    nextThat (serve .ctl { start with cfg := overheadConfig 5892 (by decide), d := ⟨0, 0, 0, 7⟩ })
      (fun t => t.mode == .short && t.trimReloadValue == 0 && t.tSyn == ⟨0, true⟩) = true := by decide

/-- V-DEC-32: negative, clamped; the degenerate reload. -/
theorem test_actS_clamp :
    nextThat (serve .ctl { start with cfg := overheadConfig 60 (by decide), d := ⟨9, 9, 9, 9⟩ })
      (fun t => t.mode == .short && t.trimReloadValue == 65536 && t.tSyn == ⟨65535, true⟩) = true := by decide

/-- V-DEC-02. -/
theorem test_actL :
    nextThat (serve .ctl { start with d := ⟨0, 0, 0, 1⟩ })
      (fun t => t.mode == .long && t.chunkKind == .full && t.chainCount == 6 && t.remainingFullChunks == 6 &&
        t.trimReloadValue == 24288 && t.tSyn == ⟨0, true⟩) = true := by decide

/-- V-DEC-38: a half-period of twice `TIMER_RANGE`. -/
theorem test_actL_degenerate :
    nextThat (serve .ctl { start with cfg := overheadConfig 368928 (by decide), d := ⟨0, 0, 0, 1⟩ })
      (fun t => t.mode == .long && t.chainCount == 1 && t.trimReloadValue == 65536) = true := by decide

/-- V-DEC-23, -26 and -40: `CYCLE_US` = 625/576 and 50, the exact quotient (R114). -/
theorem test_half_period :
    halfPeriod { Config.exampleParams with cycleNum := 625, cycleDen := 576 } 3 = 153600 ∧
      halfPeriod { Config.exampleParams with cycleNum := 625, cycleDen := 576 } 1234 = 373 ∧
      halfPeriod { Config.exampleParams with cycleNum := 50 } 9999 = 1 := by decide

/-- V-CTL-03: in the high half-period. -/
theorem test_deact :
    nextThat (serve .ctl { shortPending with tfSyn := false, tSyn := ⟨65300, true⟩, out := true, ind := true })
      (fun t => !t.activeFlag && t.mode == .idle && t.tSyn == ⟨65300, false⟩ && !t.out && !t.ind &&
        t.d == ⟨0, 0, 0, 0⟩ && t.trimReloadValue == 0 && t.chunkKind == .full) = true := by decide

/-- V-CTL-04 and V-CTL-05: the pending completion is discarded, the debounce wait is left alone. -/
theorem test_deact_discards_pending :
    nextThat (serve .ctl trimPending) (fun t => !t.tfSyn && t.remainingFullChunks == 0 && t.chainCount == 0) = true ∧
      nextThat (serve .ctl { waiting 4 1234 with activeFlag := true })
        (fun t => t.ks == .debounce && t.debLeft == 4 && t.tDeb == ⟨1234, true⟩) = true := by decide

/-- V-SYN-01. -/
theorem test_synNop :
    nextThat (serve .syn { start with tfSyn := true }) (fun t => t == start) = true ∧
      noted .synNop noKeys { start with tfSyn := true } = [.spuriousCompletion] := by decide

/-- V-SYN-02. -/
theorem test_synSt :
    nextThat (serve .syn shortPending)
      (fun t => t.out && t.ind && t.tSyn == ⟨65131, true⟩ && !t.tfSyn) = true := by decide

/-- V-SYN-05: the degenerate reload. -/
theorem test_synSt_degenerate :
    nextThat (serve .syn { shortPending with trimReloadValue := 65536 })
      (fun t => t.out && t.tSyn == ⟨65535, true⟩) = true := by decide

/-- V-SYN-06. -/
theorem test_synLf :
    nextThat (serve .syn (longPending 6))
      (fun t => t.remainingFullChunks == 5 && t.tSyn == ⟨0, true⟩ && t.chunkKind == .full && !t.out) = true := by decide

/-- V-SYN-08. -/
theorem test_synLr :
    nextThat (serve .syn (longPending 0))
      (fun t => t.chunkKind == .trim && t.tSyn == ⟨24288, true⟩ && !t.out && !t.tfSyn) = true := by decide

/-- V-SYN-10. -/
theorem test_synLt :
    nextThat (serve .syn trimPending)
      (fun t => t.out && t.ind && t.remainingFullChunks == 6 && t.chunkKind == .full && t.tSyn == ⟨0, true⟩) = true := by
  decide

/-- V-KEY-15, -13, -14, -01: steps that change nothing. -/
theorem test_key_steps_without_effect :
    [{ start with activeFlag := true, pressed := matrixOf [(1, 1)] }, waiting 3 0,
      { waiting 3 0 with activeFlag := true }, start].all (fun s => nextThat (serve .key s) (fun t => t == s)) = true := by
  decide

/-- V-KEY-16. -/
theorem test_keyDrop :
    nextThat (serve .key { scanning 1 [(1, 1)] with activeFlag := true })
      (fun t => t.ks == .rows && t.d == start.d) = true ∧
      noted .keyDrop noKeys start = [.keyWhileActive] := by decide

/-- V-KEY-03: the lowest of several rows. -/
theorem test_keyRowHit :
    nextThat (serve .key { start with pressed := matrixOf [(2, 1), (1, 2), (1, 0)] })
      (fun t => t.rowLatch == 1 && t.ks == .cols) = true := by decide

/-- V-KEY-10: a key in another row is not seen. -/
theorem test_keyColMiss :
    nextThat (serve .key (scanning 1 [(2, 0)])) (fun t => t.ks == .rows && t.d == start.d) = true := by decide

/-- V-KEY-07: the lowest column wins even though it is unused, and no wait starts. -/
theorem test_keyColUnused :
    nextThat (serve .key (scanning 3 [(3, 0), (3, 1)]))
      (fun t => t.ks == .rows && t.d == start.d && t.tDeb == ⟨0, false⟩) = true := by decide

/-- V-KEY-04. -/
theorem test_keyColDigit :
    nextThat (serve .key { scanning 0 [(0, 2)] with d := ⟨0, 0, 1, 2⟩ })
      (fun t => t.d == ⟨0, 1, 2, 3⟩ && t.ks == .debounce && t.debLeft == 6 && t.tDeb == ⟨0, true⟩) = true := by decide

/-- V-KEY-09: the lowest column of the latched row; several keys down. -/
theorem test_keyColDigit_multi :
    nextThat (serve .key (scanning 1 [(2, 1), (1, 2), (1, 0)])) (fun t => t.d == ⟨0, 0, 0, 4⟩) = true ∧
      noted .keyColDigit noKeys (scanning 1 [(2, 1), (1, 2), (1, 0)]) = [.multiKey] ∧
      noted .keyColDigit noKeys (scanning 1 [(1, 0)]) = [] := by decide

/-- V-DSP-03. -/
theorem test_dspLoad :
    nextThat (serve .dsp { start with d := ⟨1, 2, 3, 4⟩, activeDigitIndex := 2, digitEn := 0b0010, tfDisp := true })
      (fun t => t.digitEn == 0 && t.seg == 0x4F && t.phase == .enableDigit && t.activeDigitIndex == 2 && !t.tfDisp) =
        true := by decide

/-- V-DSP-04: the index wraps. -/
theorem test_dspEn :
    nextThat (serve .dsp { start with phase := .enableDigit, activeDigitIndex := 3, tfDisp := true })
      (fun t => t.digitEn == 0b1000 && t.activeDigitIndex == 0 && t.phase == .loadSegments) = true := by decide

/-- V-CNT-10 to -14: the count a configure stores. -/
theorem test_configure :
    reloadCount Config.exampleParams 0 = 0 ∧ reloadCount Config.exampleParams 65535 = 65535 ∧
      reloadCount Config.exampleParams 65536 = 65535 ∧
      reloadCount { Config.exampleParams with zeroChunkCycles := 65536 } 65536 = 0 ∧
      reloadCount { Config.exampleParams with zeroChunkCycles := 7 } 65536 = 65529 := by decide

/-- The step plays the first item of the trace: `keys`, then an event, then a given selector. -/
theorem test_step_plays_the_trace :
    nextThat (step { start with trace := [.keys keyTopLeft, .event .key] })
        (fun t => t.pressed == keyTopLeft && t.trace == [.event .key]) = true ∧
      nextThat (step { start with trace := [.event .cnt] }) (fun t => t.t == 1 && t.tDispCnt == 1) = true ∧
      step { start with trace := [.selector 0x40] } = .refused .notEnabled ∧
      step { start with trace := [.selector 0x30] } = .refused .notSelected ∧
      step { start with trace := [.selector 0xA0] } = .fault .stuckReservedSelector :=
  ⟨by decide, by decide, rfl, rfl, rfl⟩

/-- P1 without its `run` items: `enter 1` up to the wait, on the trace notation of R96. -/
theorem test_enter_keys :
    nextThat (enterKeys 9 start)
      (fun t => t.d == ⟨0, 0, 0, 9⟩ && t.ks == .debounce && t.rowLatch == 2 && t.pressed == noKeys) = true := by decide

/-- R97: `enter` stands only while inactive and with `KS` = ROWS; elsewhere R96 calls the trace ill-formed. -/
theorem test_enter_elsewhere_is_ill_formed :
    enterKeys 9 { start with activeFlag := true } = .refused .illFormedItem ∧
      enterKeys 9 (scanning 0 []) = .refused .illFormedItem ∧
      play (.enter 9) (waiting 3 0) = .refused .illFormedItem := by
  refine ⟨rfl, rfl, rfl⟩

/-- Every operation's own row word runs as the first step after reset (R89, the canonical selectors). -/
theorem test_withFetchWord_runs_every_operation :
    ([0x00, 0x28, 0x20, 0x24, 0x30, 0x40, 0x46, 0x49, 0x48, 0x4A, 0x70, 0x74, 0x60, 0x62, 0x64, 0x66, 0x67, 0x68,
      0x80, 0x87] : List Nat).all (fun w => nextThat (step (State.reset.withFetchWord 8 w)) (fun t => t.trace.isEmpty)) =
      true := by decide

/-! ## Witnesses -/

theorem witness_DecodeOfEncodeIsIdentity :
    Instr.wellFormed .cnt = true ∧ Instr.wellFormed .keyWait = true ∧ Instr.wellFormed (.dspLoad 0) = true ∧
      Instr.wellFormed (.dspEn 3) = true := by decide

theorem witness_DataFormatsReadBack :
    DigitBuffer.ofPacked 0x0000 = some ⟨0, 0, 0, 0⟩ ∧ DigitBuffer.ofPacked 0x9999 = some ⟨9, 9, 9, 9⟩ ∧
      (0b1111#4).toNat % 4 = 3 ∧ (0b0011#4).toNat % 4 = 3 := by decide

theorem witness_EnabledEventSelectsAnOperationThatRuns :
    enabled .cnt start = true ∧ enabled .ctl start = true ∧ enabled .key start = true ∧
      enabled .syn shortPending = true ∧ enabled .dsp { start with tfDisp := true } = true := by decide

theorem witness_OperationRunsOnlyWhereSelected :
    nextThat (exec .cnt start) (fun _ => true) = true ∧ nextThat (exec .actZ start) (fun _ => true) = true ∧
      nextThat (exec (.dspLoad 0) { start with tfDisp := true }) (fun _ => true) = true := by decide

theorem witness_EventRunsExactlyWhenEnabled :
    shortPending.tfSyn = true ∧ start.tfSyn = false ∧ ({ start with tfDisp := true } : State).tfDisp = true ∧
      start.tfDisp = false ∧ ¬(shortPending.tfSyn = false ∧ shortPending.tfDisp = false) := by decide

theorem witness_StepRunsTheDecodedOperation :
    ({ start with trace := [.selector 0x28] } : State).trace = .selector 0x28 :: [] ∧
      decode [0x28] = .ok (.actZ, []) ∧
      ({ start with trace := [.event .ctl] } : State).trace = .event .ctl :: [] ∧
      decode [formSel .ctl { start with trace := [.event .ctl] }] = .ok (.actZ, []) ∧
      ({ start with trace := [.keys noKeys] } : State).trace = .keys noKeys :: [] ∧ start.trace = [] := by decide

theorem witness_FreeRunningBlockNeverHalts : State.reset.trace = [] := rfl

theorem witness_ResetLeavesTheTable :
    ∃ (s : State) (r : State), s.cfg = Config.example ∧ r = assertReset s ∧ s.activeFlag = true ∧ r = start :=
  ⟨shortPending, start, rfl, by decide, rfl, rfl⟩

theorem witness_ResetEnablesEdgeKeyAndCount :
    Config.example.digitInit = ⟨0, 0, 0, 0⟩ ∧ 0 < Config.example.dispPeriod ∧ 99 < Config.example.dispPeriod := by decide

theorem witness_CountAdvancesTheThreeChannels :
    (start.tfSyn = false ∧ start.tfDisp = false ∧ DebounceRuns start ∧ CountersInRange start) ∧
      ((waiting 1 65535).tfSyn = false ∧ (waiting 1 65535).tfDisp = false ∧ DebounceRuns (waiting 1 65535) ∧
        CountersInRange (waiting 1 65535)) ∧
      shortPending.tfSyn = true := by decide

theorem witness_TimerChannelContract :
    (0 ≤ Config.example.timerRange ∧ 65536 = if 0 < Config.example.timerRange then Config.example.timerRange - 0
      else Config.example.zeroChunkCycles) ∧
    (65535 ≤ Config.example.timerRange ∧ 1 = if 65535 < Config.example.timerRange
      then Config.example.timerRange - 65535 else Config.example.zeroChunkCycles) ∧
    (65536 ≤ Config.example.timerRange ∧ 1 = if 65536 < Config.example.timerRange
      then Config.example.timerRange - 65536 else Config.example.zeroChunkCycles) ∧
    (⟨5, true⟩ : Channel).run = true := by decide

theorem witness_ActivationWithZeroFrequency : start.activeFlag = false ∧ start.d = ⟨0, 0, 0, 0⟩ := by decide

/-- At both ends of the range of `h`: `TIMER_RANGE` (V-DEC-35) and 0 (V-DEC-32). -/
theorem witness_ActivationIntoShortMode :
    (65536 = 500000 * 1 / (7 * 1) - 5892 ∧ (7 : Nat) ≠ 0 ∧
      65536 ≤ (overheadConfig 5892 (by decide)).timerRange ∧ (overheadConfig 5892 (by decide)).overhead = 5892) ∧
    (0 = 500000 * 1 / (9999 * 1) - 60 ∧ 0 ≤ (overheadConfig 60 (by decide)).timerRange) ∧
    frequency ⟨9, 9, 9, 9⟩ = 9999 ∧ start.activeFlag = false ∧ start.cfg.cycleNum = 1 ∧ start.cfg.cycleDen = 1 := by
  decide

/-- The smallest LONG half-period (V-DEC-36) and a multiple of `TIMER_RANGE` (V-DEC-38). -/
theorem witness_ActivationIntoLongMode :
    (65537 = 500000 * 1 / (7 * 1) - 5891 ∧ (overheadConfig 5891 (by decide)).timerRange < 65537) ∧
    (131072 = 500000 * 1 / (1 * 1) - 368928 ∧ (overheadConfig 368928 (by decide)).timerRange < 131072 ∧
      131072 % (overheadConfig 368928 (by decide)).timerRange = 0) ∧
    frequency ⟨0, 0, 0, 7⟩ = 7 ∧ start.activeFlag = false ∧ start.cfg.cycleNum = 1 ∧ start.cfg.cycleDen = 1 := by
  decide

theorem witness_DeactivationClearsEverything : shortPending.activeFlag = true ∧ trimPending.activeFlag = true := by
  decide

theorem witness_HalfPeriodIsTheExactQuotient : (1 : Nat) ≠ 0 ∧ (9999 : Nat) ≠ 0 := by decide

theorem witness_ControlEdgesAlternate :
    shortPending.activeFlag = true ∧ start.activeFlag = false ∧ frequency start.d = 0 ∧
      (frequency ⟨0, 0, 0, 8⟩ ≠ 0 ∧ halfPeriod Config.exampleParams 8 ≤ Config.exampleParams.timerRange) ∧
      (frequency ⟨0, 0, 0, 7⟩ ≠ 0 ∧ Config.exampleParams.timerRange < halfPeriod Config.exampleParams 7) := by decide

theorem witness_PlanReconstructsTheHalfPeriod :
    nextThat (exec .actS { start with d := ⟨0, 0, 0, 8⟩ }) (fun _ => true) = true ∧
      nextThat (exec .actL { start with d := ⟨0, 0, 0, 7⟩ }) (fun _ => true) = true := by decide

theorem witness_DegeneratePlanArisesExactly :
    nextThat (exec .actS { start with cfg := overheadConfig 60 (by decide), d := ⟨8, 1, 9, 7⟩ })
        (fun t => t.trimReloadValue == 65536) = true ∧
      nextThat (exec .actL { start with cfg := overheadConfig 368928 (by decide), d := ⟨0, 0, 0, 1⟩ })
        (fun t => t.trimReloadValue == 65536) = true := by decide

theorem witness_ChainCountFits :
    nextThat (exec .actL { start with d := ⟨0, 0, 0, 1⟩ }) (fun t => t.chainCount == start.cfg.nMax) = true := by decide

theorem witness_PlanDependsOnDigitsAlone :
    let s₁ : State := { start with d := ⟨0, 0, 0, 1⟩ }
    let s₂ : State := { waiting 3 17 with d := ⟨0, 0, 0, 1⟩, tSyn := ⟨99, false⟩, tDispCnt := 5 }
    s₁.activeFlag = false ∧ s₂.activeFlag = false ∧ s₁.d = s₂.d ∧ s₁.cfg = s₂.cfg ∧
      nextThat (serve .ctl s₁) (fun t => t.mode != .idle) = true ∧
      nextThat (serve .ctl s₂) (fun t => t.mode != .idle) = true := by decide

theorem witness_CompletionWhileIdleIsConsumed :
    ({ start with tfSyn := true } : State).tfSyn = true ∧ start.mode = .idle := by decide

theorem witness_ShortCompletionTogglesAndReloads :
    shortPending.tfSyn = true ∧ shortPending.mode = .short ∧ shortPending.trimReloadValue ≤ start.cfg.timerRange ∧
      65536 ≤ start.cfg.timerRange := by decide

theorem witness_FullChunkCompletionCountsDown :
    (longPending 1).tfSyn = true ∧ (longPending 1).mode = .long ∧ (longPending 1).chunkKind = .full ∧
      0 < (longPending 1).remainingFullChunks := by decide

theorem witness_LastFullChunkCompletionLoadsTrim :
    (longPending 0).tfSyn = true ∧ (longPending 0).mode = .long ∧ (longPending 0).chunkKind = .full ∧
      (longPending 0).remainingFullChunks = 0 ∧
      (longPending 0).trimReloadValue ≤ (longPending 0).cfg.timerRange := by decide

theorem witness_TrimCompletionTogglesAndRestarts :
    trimPending.tfSyn = true ∧ trimPending.mode = .long ∧ trimPending.chunkKind = .trim := by decide

theorem witness_IdleMissAndWaitChangeNothing :
    (({ start with activeFlag := true } : State).activeFlag = true ∧ start.ks = .rows) ∧
      (start.activeFlag = false ∧ ∀ r c, start.pressed.read r c = false) ∧ (waiting 3 0).ks = .debounce := by decide

/-- The lowest key and the highest one. -/
theorem witness_RowHitLatchesTheLowestRow :
    ((matrixOf [(0, 0)]).read 0 0 = true ∧ ∀ r' c', r' < (0 : KeyRow) → (matrixOf [(0, 0)]).read r' c' = false) ∧
      ((matrixOf [(3, 2)]).read 3 2 = true ∧ ∀ r' c', r' < (3 : KeyRow) → (matrixOf [(3, 2)]).read r' c' = false) ∧
      start.activeFlag = false ∧ start.ks = .rows := by decide

theorem witness_ScanWithoutDigitGoesBackToRows :
    (scanning 3 [(3, 0)]).ks = .cols ∧ ({ scanning 3 [] with activeFlag := true } : State).activeFlag = true ∧
      ((scanning 1 [(2, 0)]).activeFlag = false ∧
        ∀ c, (scanning 1 [(2, 0)]).pressed.read (scanning 1 [(2, 0)]).rowLatch c = false) ∧
      ((scanning 3 [(3, 0)]).pressed.read 3 0 = true ∧ (scanning 3 [(3, 0)]).cfg.keyMap.read 3 0 = none) ∧
      ((scanning 3 [(3, 2)]).pressed.read 3 2 = true ∧
        (∀ c', c' < (2 : KeyCol) → (scanning 3 [(3, 2)]).pressed.read 3 c' = false) ∧
        (scanning 3 [(3, 2)]).cfg.keyMap.read 3 2 = none) := by decide

theorem witness_DigitKeyShiftsInAndStartsTheWait :
    (scanning 2 [(2, 2)]).activeFlag = false ∧ (scanning 2 [(2, 2)]).ks = .cols ∧
      (scanning 2 [(2, 2)]).pressed.read (scanning 2 [(2, 2)]).rowLatch 2 = true ∧
      (∀ c', c' < (2 : KeyCol) → (scanning 2 [(2, 2)]).pressed.read (scanning 2 [(2, 2)]).rowLatch c' = false) ∧
      (scanning 2 [(2, 2)]).cfg.keyMap.read (scanning 2 [(2, 2)]).rowLatch 2 = some 9 := by decide

theorem witness_EnteringADigitTakesSixSpans :
    Sound start ∧ start.activeFlag = false ∧ start.ks = .rows ∧ start.tfDisp = false := by decide

/-- The last count of the wait, and a key step during it. -/
theorem witness_DebounceWaitIsUncancelable :
    let s : State := { waiting 1 65535 with trace := [.event .cnt] }
    let s' : State := { waiting 6 0 with trace := [.event .key] }
    (Sound s ∧ s.ks = .debounce ∧ nextThat (step s) (fun t => t.ks == .rows) = true) ∧
      (Sound s' ∧ s'.ks = .debounce ∧ nextThat (step s') (fun t => t.ks == .debounce) = true) :=
  ⟨⟨by decide, by decide, by decide⟩, by decide, by decide, by decide⟩

theorem witness_DisplayLoadTick :
    ({ start with tfDisp := true } : State).tfDisp = true ∧ start.phase = .loadSegments := by decide

theorem witness_DisplayEnableTick :
    ({ start with tfDisp := true, phase := .enableDigit } : State).tfDisp = true ∧
      ({ start with tfDisp := true, phase := .enableDigit } : State).phase = .enableDigit := by decide

theorem witness_TwoTicksShowOnePosition :
    start.phase = .loadSegments ∧ ({ start with activeDigitIndex := 3 } : State).phase = .loadSegments := by decide

theorem witness_SegmentsAndEnablesNeverChangeTogether :
    nextThat (exec (.dspLoad 0) { start with tfDisp := true }) (fun t => t.seg != start.seg) = true ∧
      nextThat (exec (.dspEn 0) { start with tfDisp := true, phase := .enableDigit })
        (fun t => !start.digitEn.getLsbD 0 && t.digitEn.getLsbD 0) = true := by decide

theorem witness_DisplayDoesNotInfluenceTheBlock :
    (nextThat (exec (.dspEn 0) { start with tfDisp := true, phase := .enableDigit }) (fun _ => true) = true ∧
      Instr.eventClass (.dspEn 0) = some .dsp) ∧
    (nextThat (exec .synSt shortPending) (fun _ => true) = true ∧ Instr.eventClass .synSt ≠ some .dsp ∧
      Instr.synSt ≠ .cnt) := by decide

theorem witness_EachFieldHasItsWriters :
    (Inv shortPending ∧ nextThat (exec .synSt shortPending) (fun t => t.out != shortPending.out) = true) ∧
      (Inv (waiting 1 65535) ∧ nextThat (exec .cnt (waiting 1 65535)) (fun t => t.ks == .rows) = true) ∧
      (Inv (scanning 0 [(0, 0)]) ∧
        nextThat (exec .keyColDigit (scanning 0 [(0, 0)])) (fun t => t.d == ⟨0, 0, 0, 1⟩) = true) ∧
      (Inv trimPending ∧ nextThat (exec .deact trimPending) (fun t => !t.tfSyn && !t.tSyn.run) = true) ∧
      (Inv start ∧ nextThat (exec .actZ start) (fun t => t.activeFlag) = true) :=
  ⟨⟨by decide, by decide⟩, ⟨by decide, by decide⟩, ⟨by decide, by decide⟩, ⟨by decide, by decide⟩, by decide, by decide⟩

theorem witness_EdgeAndPendingCompletionEndAlike :
    (Inv start ∧ start.activeFlag = false) ∧
      (Inv trimPending ∧ trimPending.activeFlag = true ∧ trimPending.tfSyn = true) :=
  ⟨⟨by decide, by decide⟩, by decide, by decide, by decide⟩

theorem witness_DisjointOperationsCommute :
    Instr.eventClass .synLt = some .syn ∧ Instr.eventClass (.dspLoad 3) = some .dsp ∧
      Instr.eventClass .keyColDigit = some .key ∧ Instr.eventClass .keyRowHit = some .key ∧
      Instr.eventClass .actL = some .ctl ∧ ¬((∃ ii, Instr.dspEn 0 = .dspLoad ii) ∧ Instr.keyColDigit = .keyColDigit) ∧
      ¬((∃ ii, Instr.dspLoad 0 = .dspLoad ii) ∧ Instr.keyRowHit = .keyColDigit) := by
  refine ⟨rfl, rfl, rfl, rfl, rfl, ?_, ?_⟩
  · rintro ⟨⟨ii, h⟩, -⟩; cases h
  · rintro ⟨-, h⟩; cases h

theorem witness_StepKeepsTheInvariants :
    let s : State := { longPending 0 with trace := [.event .syn] }
    Inv s ∧ nextThat (step s) (fun t => t.chunkKind == .trim) = true :=
  ⟨by decide, by decide⟩

theorem witness_StepKeepsTheRanges :
    let s : State := { start with d := ⟨0, 0, 0, 1⟩, trace := [.event .ctl] }
    Sound s ∧ nextThat (step s) (fun t => t.chainCount == 6 && t.trimReloadValue == 24288) = true :=
  ⟨by decide, by decide⟩

theorem witness_IdleEngineKeepsTheOutputLow :
    let s : State := { start with trace := [.event .ctl] }
    Inv s ∧ s.mode = .idle ∧ nextThat (step s) (fun t => t.activeFlag) = true :=
  ⟨by decide, by decide, by decide⟩

theorem witness_ActivationStartsALowHalfPeriod :
    (Inv { start with d := ⟨0, 0, 0, 8⟩ } ∧
      nextThat (exec .actS { start with d := ⟨0, 0, 0, 8⟩ }) (fun t => realisedHalfPeriod t == 62500) = true) ∧
    (Inv { start with d := ⟨0, 0, 0, 7⟩ } ∧
      nextThat (exec .actL { start with d := ⟨0, 0, 0, 7⟩ }) (fun t => realisedHalfPeriod t == 71428) = true) :=
  ⟨⟨by decide, by decide⟩, by decide, by decide⟩

/-- One state for each of the three ways a step can go: a count, a completion that toggles, a key step. -/
theorem witness_OutputTogglesOnTheClock :
    let s₁ : State := { shortPending with tfSyn := false, tSyn := ⟨65535, true⟩, trace := [.event .cnt] }
    let s₂ : State := { shortPending with trace := [.event .syn] }
    let s₃ : State := { longPending 6 with trace := [.event .key] }
    (Sound s₁ ∧ s₁.mode ≠ .idle ∧ nextThat (step s₁) (fun t => t.mode != .idle && t.tfSyn) = true) ∧
      (Sound s₂ ∧ s₂.mode ≠ .idle ∧ nextThat (step s₂) (fun t => t.mode != .idle && t.out) = true) ∧
      (Sound s₃ ∧ s₃.mode ≠ .idle ∧ nextThat (step s₃) (fun t => t.mode != .idle && !t.out) = true) :=
  ⟨⟨by decide, by decide, by decide⟩, ⟨by decide, by decide, by decide⟩, by decide, by decide, by decide⟩

theorem witness_EagerRunTogglesAfterTheHalfPeriod :
    let s : State := { longPending 6 with tfSyn := false }
    Sound s ∧ s.mode ≠ .idle ∧ s.tfSyn = false ∧ s.tfDisp = false ∧ cyclesToToggle s = 65536 * 7 + 41248 :=
  ⟨by decide, by decide, by decide, by decide, by decide⟩

end Sys2Proof.Tests
end

/-!
PROOFS. What an operation can do, as one case analysis: `Performs s i t` lists for each operation of R89 the
conditions under which it runs and the state it answers, and `exec_next_iff` says that this is what `exec` does.
-/

namespace Sys2Proof.Machine

/-- Operation `i`, performed in `s`, answers `t`: one constructor for each operation of R89, with its enabling
(R224) and its selection condition. A reserved row (R92) answers nothing and has none. -/
inductive Performs (s : State) : Instr → State → Prop where
  | cnt (hsyn : s.tfSyn = false) (hdisp : s.tfDisp = false) : Performs s .cnt (cntEffect s)
  | actZ (hA : s.activeFlag = false) (hf : freqNow s = 0) : Performs s .actZ (activate Plan.idle s)
  | actS (hA : s.activeFlag = false) (hf : freqNow s ≠ 0) (hh : halfNow s ≤ s.cfg.timerRange) :
      Performs s .actS (startSyn (configureSyn (s.cfg.timerRange - halfNow s)
        (activate (Plan.short s.cfg.toParams (halfNow s)) s)))
  | actL (hA : s.activeFlag = false) (hf : freqNow s ≠ 0) (hh : s.cfg.timerRange < halfNow s) :
      Performs s .actL (startSyn (configureSyn 0 (activate (Plan.long s.cfg.toParams (halfNow s)) s)))
  | deact (hA : s.activeFlag = true) : Performs s .deact (deactEffect s)
  | synNop (hsyn : s.tfSyn = true) (hm : s.mode = .idle) : Performs s .synNop (clearTfSyn s)
  | synSt (hsyn : s.tfSyn = true) (hm : s.mode = .short) :
      Performs s .synSt (configureSyn s.trimReloadValue (toggleLines (clearTfSyn s)))
  | synLf (hsyn : s.tfSyn = true) (hm : s.mode = .long) (hc : s.chunkKind = .full)
      (hr : 0 < s.remainingFullChunks) :
      Performs s .synLf { clearTfSyn s with remainingFullChunks := s.remainingFullChunks - 1 }
  | synLr (hsyn : s.tfSyn = true) (hm : s.mode = .long) (hc : s.chunkKind = .full)
      (hr : s.remainingFullChunks = 0) :
      Performs s .synLr { configureSyn s.trimReloadValue (clearTfSyn s) with chunkKind := .trim }
  | synLt (hsyn : s.tfSyn = true) (hm : s.mode = .long) (hc : s.chunkKind = .trim) :
      Performs s .synLt { configureSyn 0 (toggleLines (clearTfSyn s)) with
        remainingFullChunks := s.chainCount, chunkKind := .full }
  | keyIdle (hA : s.activeFlag = true) (hk : s.ks = .rows) : Performs s .keyIdle s
  | keyDrop (hA : s.activeFlag = true) (hk : s.ks = .cols) : Performs s .keyDrop (backToRows s)
  | keyRowMiss (hA : s.activeFlag = false) (hk : s.ks = .rows) (hrow : rowFound s.pressed = none) :
      Performs s .keyRowMiss s
  | keyRowHit (r : KeyRow) (hA : s.activeFlag = false) (hk : s.ks = .rows) (hrow : rowFound s.pressed = some r) :
      Performs s .keyRowHit { s with rowLatch := r, ks := .cols }
  | keyColMiss (hA : s.activeFlag = false) (hk : s.ks = .cols) (hcol : colFound s.pressed s.rowLatch = none) :
      Performs s .keyColMiss (backToRows s)
  | keyColUnused (hA : s.activeFlag = false) (hk : s.ks = .cols)
      (hcol : (colFound s.pressed s.rowLatch).isSome = true)
      (hdig : digitFound s.cfg.keyMap s.pressed s.rowLatch = none) : Performs s .keyColUnused (backToRows s)
  | keyColDigit (v : Digit) (hA : s.activeFlag = false) (hk : s.ks = .cols)
      (hdig : digitFound s.cfg.keyMap s.pressed s.rowLatch = some v) :
      Performs s .keyColDigit (startDebounce { s with d := s.d.shiftIn v })
  | keyWait (hk : s.ks = .debounce) : Performs s .keyWait s
  | dspLoad (hdisp : s.tfDisp = true) (hp : s.phase = .loadSegments) :
      Performs s (.dspLoad s.activeDigitIndex) { clearTfDisp s with
        digitEn := 0, seg := s.cfg.segTable.read (s.d.read s.activeDigitIndex), phase := .enableDigit }
  | dspEn (hdisp : s.tfDisp = true) (hp : s.phase = .enableDigit) :
      Performs s (.dspEn s.activeDigitIndex) { clearTfDisp s with
        digitEn := s.digitEn ||| enableBit s.activeDigitIndex,
        activeDigitIndex := s.activeDigitIndex + 1, phase := .loadSegments }

variable {i : Instr} {s t : State}

theorem performs_of_exec (h : exec i s = .next t) : Performs s i t := by
  cases i with
  | cnt => obtain ⟨⟨hsyn, hdisp⟩, rfl⟩ := execCnt_next_iff.1 h; exact .cnt hsyn hdisp
  | actZ => obtain ⟨⟨hA, hf⟩, rfl⟩ := execActZ_next_iff.1 h; exact .actZ hA hf
  | actS => obtain ⟨⟨hA, hf, hh⟩, rfl⟩ := execActS_next_iff.1 h; exact .actS hA hf hh
  | actL => obtain ⟨⟨hA, hf, hh⟩, rfl⟩ := execActL_next_iff.1 h; exact .actL hA hf hh
  | deact => obtain ⟨hA, rfl⟩ := execDeact_next_iff.1 h; exact .deact hA
  | synNop => obtain ⟨⟨hsyn, hm⟩, rfl⟩ := execSynNop_next_iff.1 h; exact .synNop hsyn hm
  | synSt => obtain ⟨⟨hsyn, hm⟩, rfl⟩ := execSynSt_next_iff.1 h; exact .synSt hsyn hm
  | synLf => obtain ⟨⟨hsyn, hm, hc, hr⟩, rfl⟩ := execSynLf_next_iff.1 h; exact .synLf hsyn hm hc hr
  | synLr => obtain ⟨⟨hsyn, hm, hc, hr⟩, rfl⟩ := execSynLr_next_iff.1 h; exact .synLr hsyn hm hc hr
  | synLt => obtain ⟨⟨hsyn, hm, hc⟩, rfl⟩ := execSynLt_next_iff.1 h; exact .synLt hsyn hm hc
  | keyIdle => obtain ⟨⟨hA, hk⟩, rfl⟩ := execKeyIdle_next_iff.1 h; exact .keyIdle hA hk
  | keyDrop => obtain ⟨⟨hA, hk⟩, rfl⟩ := execKeyDrop_next_iff.1 h; exact .keyDrop hA hk
  | keyRowMiss => obtain ⟨⟨hA, hk, hrow⟩, rfl⟩ := execKeyRowMiss_next_iff.1 h; exact .keyRowMiss hA hk hrow
  | keyRowHit => obtain ⟨r, ⟨hA, hk, hrow⟩, rfl⟩ := execKeyRowHit_next_iff.1 h; exact .keyRowHit r hA hk hrow
  | keyColMiss => obtain ⟨⟨hA, hk, hcol⟩, rfl⟩ := execKeyColMiss_next_iff.1 h; exact .keyColMiss hA hk hcol
  | keyColUnused =>
    obtain ⟨⟨hA, hk, hcol, hdig⟩, rfl⟩ := execKeyColUnused_next_iff.1 h; exact .keyColUnused hA hk hcol hdig
  | keyColDigit => obtain ⟨v, ⟨hA, hk, hdig⟩, rfl⟩ := execKeyColDigit_next_iff.1 h; exact .keyColDigit v hA hk hdig
  | keyWait => obtain ⟨hk, rfl⟩ := execKeyWait_next_iff.1 h; exact .keyWait hk
  | dspLoad ii => obtain ⟨⟨hdisp, hp, rfl⟩, rfl⟩ := execDspLoad_next_iff.1 h; exact .dspLoad hdisp hp
  | dspEn ii => obtain ⟨⟨hdisp, hp, rfl⟩, rfl⟩ := execDspEn_next_iff.1 h; exact .dspEn hdisp hp
  | reservedSyn | reservedKey | reservedEv5 | reservedEv6 | reservedEv7 => exact absurd h (stuck_ne_next (s := s))

theorem exec_of_performs (h : Performs s i t) : exec i s = .next t := by
  cases h with
  | cnt hsyn hdisp => exact execCnt_next_iff.2 ⟨⟨hsyn, hdisp⟩, rfl⟩
  | actZ hA hf => exact execActZ_next_iff.2 ⟨⟨hA, hf⟩, rfl⟩
  | actS hA hf hh => exact execActS_next_iff.2 ⟨⟨hA, hf, hh⟩, rfl⟩
  | actL hA hf hh => exact execActL_next_iff.2 ⟨⟨hA, hf, hh⟩, rfl⟩
  | deact hA => exact execDeact_next_iff.2 ⟨hA, rfl⟩
  | synNop hsyn hm => exact execSynNop_next_iff.2 ⟨⟨hsyn, hm⟩, rfl⟩
  | synSt hsyn hm => exact execSynSt_next_iff.2 ⟨⟨hsyn, hm⟩, rfl⟩
  | synLf hsyn hm hc hr => exact execSynLf_next_iff.2 ⟨⟨hsyn, hm, hc, hr⟩, rfl⟩
  | synLr hsyn hm hc hr => exact execSynLr_next_iff.2 ⟨⟨hsyn, hm, hc, hr⟩, rfl⟩
  | synLt hsyn hm hc => exact execSynLt_next_iff.2 ⟨⟨hsyn, hm, hc⟩, rfl⟩
  | keyIdle hA hk => exact execKeyIdle_next_iff.2 ⟨⟨hA, hk⟩, rfl⟩
  | keyDrop hA hk => exact execKeyDrop_next_iff.2 ⟨⟨hA, hk⟩, rfl⟩
  | keyRowMiss hA hk hrow => exact execKeyRowMiss_next_iff.2 ⟨⟨hA, hk, hrow⟩, rfl⟩
  | keyRowHit r hA hk hrow => exact execKeyRowHit_next_iff.2 ⟨r, ⟨hA, hk, hrow⟩, rfl⟩
  | keyColMiss hA hk hcol => exact execKeyColMiss_next_iff.2 ⟨⟨hA, hk, hcol⟩, rfl⟩
  | keyColUnused hA hk hcol hdig => exact execKeyColUnused_next_iff.2 ⟨⟨hA, hk, hcol, hdig⟩, rfl⟩
  | keyColDigit v hA hk hdig => exact execKeyColDigit_next_iff.2 ⟨v, ⟨hA, hk, hdig⟩, rfl⟩
  | keyWait hk => exact execKeyWait_next_iff.2 ⟨hk, rfl⟩
  | dspLoad hdisp hp => exact execDspLoad_next_iff.2 ⟨⟨hdisp, hp, rfl⟩, rfl⟩
  | dspEn hdisp hp => exact execDspEn_next_iff.2 ⟨⟨hdisp, hp, rfl⟩, rfl⟩

/-- `Performs` is what `exec` answers: no case is missing and none is added. -/
theorem exec_next_iff : exec i s = .next t ↔ Performs s i t := ⟨performs_of_exec, exec_of_performs⟩

end Sys2Proof.Machine

/-!
PROOFS. The table of R32, a lemma per row: an operation that changed a piece of state is one of those listed for
it. In each proof the cases named are the writers; every other operation leaves the piece as it was, by `rfl`.
-/

namespace Sys2Proof

theorem Channel.count_of_stopped {m : Nat} {c : Channel} (h : c.run = false) : c.count m = c := by
  simp [Channel.count, h]

theorem Channel.completes_of_stopped {m : Nat} {c : Channel} (h : c.run = false) : c.completes m = false := by
  simp [Channel.completes, h]

namespace Machine

variable {i : Instr} {s t : State}

/-! ## The debounce wait -/

/-- I7 of R33 read from the outside: where no wait is on, `T_DEB` is stopped. -/
theorem DebounceRuns.stopped (hI7 : DebounceRuns s) (hk : s.ks ≠ .debounce) : s.tDeb.run = false :=
  Bool.eq_false_iff.2 fun hr => hk (hI7.1.2 hr)

/-- R132: with `T_DEB` stopped, `CNT` leaves the debounce wait alone. -/
theorem cntEffect_of_tDeb_stopped (h : s.tDeb.run = false) :
    (cntEffect s).ks = s.ks ∧ (cntEffect s).debLeft = s.debLeft ∧ (cntEffect s).tDeb = s.tDeb := by
  simp [cntEffect, debounceEnds, Channel.completes_of_stopped h, Channel.count_of_stopped h]

namespace Performs

/-! ## DigitBuffer, `ActiveFlag`, the plan -/

theorem d_writers (h : Performs s i t) (hd : t.d ≠ s.d) :
    i = .keyColDigit ∧ s.activeFlag = false ∨ i = .deact ∧ s.activeFlag = true := by
  cases h with
  | keyColDigit v hA => exact .inl ⟨rfl, hA⟩
  | deact hA => exact .inr ⟨rfl, hA⟩
  | _ => exact absurd rfl hd

theorem activeFlag_writers (h : Performs s i t) (hd : t.activeFlag ≠ s.activeFlag) :
    i.eventClass = some .ctl := by
  cases h with
  | actZ | actS | actL | deact => rfl
  | _ => exact absurd rfl hd

theorem plan_writers (h : Performs s i t)
    (hd : t.mode ≠ s.mode ∨ t.chainCount ≠ s.chainCount ∨ t.trimReloadValue ≠ s.trimReloadValue) :
    i.eventClass = some .ctl := by
  cases h with
  | actZ | actS | actL | deact => rfl
  | _ => rcases hd with hd | hd | hd <;> exact absurd rfl hd

theorem chunk_writers (h : Performs s i t)
    (hd : t.chunkKind ≠ s.chunkKind ∨ t.remainingFullChunks ≠ s.remainingFullChunks) :
    i.eventClass = some .ctl ∨ i ∈ [Instr.synLf, .synLr, .synLt] := by
  cases h with
  | actZ | actS | actL | deact => exact .inl rfl
  | synLf | synLr | synLt => exact .inr (by simp)
  | _ => rcases hd with hd | hd <;> exact absurd rfl hd

/-! ## The lines, `T_SYN` and its pending flag -/

theorem lines_writers (h : Performs s i t) (hd : t.out ≠ s.out ∨ t.ind ≠ s.ind) :
    i ∈ [Instr.synSt, .synLt, .deact] := by
  cases h with
  | synSt | synLt | deact => simp
  | _ => rcases hd with hd | hd <;> exact absurd rfl hd

theorem tSyn_cnt_writers (h : Performs s i t) (hd : t.tSyn.cnt ≠ s.tSyn.cnt) :
    i ∈ [Instr.cnt, .actS, .actL, .synSt, .synLr, .synLt] := by
  cases h with
  | cnt | actS | actL | synSt | synLr | synLt => simp
  | _ => exact absurd rfl hd

/-- Counting moves the count, never the run bit (`Channel.count_run`). -/
theorem tSyn_run_writers (h : Performs s i t) (hd : t.tSyn.run ≠ s.tSyn.run) :
    i ∈ [Instr.actS, .actL, .deact] := by
  cases h with
  | actS | actL | deact => simp
  | cnt => exact absurd (Channel.count_run _ _) hd
  | _ => exact absurd rfl hd

theorem tfSyn_eq_false_of_cnt (h : Performs s i t) (hi : i = .cnt) : s.tfSyn = false := by
  subst hi
  cases h with
  | cnt hsyn => exact hsyn

theorem tfSyn_setters (h : Performs s i t) (ht : t.tfSyn = true) (hs : s.tfSyn = false) : i = .cnt := by
  cases h with
  | cnt => rfl
  | deact | synNop | synSt | synLf | synLr | synLt => exact absurd ht Bool.false_ne_true
  | _ => exact absurd (hs.symm.trans ht) Bool.false_ne_true

theorem tfSyn_clearers (h : Performs s i t) (ht : t.tfSyn = false) (hs : s.tfSyn = true) :
    i.eventClass = some .syn ∨ i = .deact := by
  cases h with
  | synNop | synSt | synLf | synLr | synLt => exact .inl rfl
  | deact => exact .inr rfl
  | cnt hsyn => exact absurd (hsyn.symm.trans hs) Bool.false_ne_true
  | _ => exact absurd (ht.symm.trans hs) Bool.false_ne_true

/-! ## The keypad path and the debounce wait -/

/-- I7 is what keeps `CNT` from writing `KS` outside the wait. -/
theorem scan_writers (h : Performs s i t) (hI7 : DebounceRuns s) (hd : t.ks ≠ s.ks ∨ t.rowLatch ≠ s.rowLatch) :
    i.eventClass = some .key ∨ i = .cnt ∧ s.ks = .debounce := by
  cases h with
  | keyIdle | keyDrop | keyRowMiss | keyRowHit | keyColMiss | keyColUnused | keyColDigit | keyWait => exact .inl rfl
  | cnt =>
    refine .inr ⟨rfl, by_contra fun hk => ?_⟩
    obtain ⟨hks, -, -⟩ := cntEffect_of_tDeb_stopped (hI7.stopped hk)
    rcases hd with hd | hd
    · exact hd hks
    · exact hd rfl
  | _ => rcases hd with hd | hd <;> exact absurd rfl hd

/-- R174: during the wait the foreground step is `KEY.WAIT`: every other KEY operation asks for `KS` = ROWS or COLS. -/
theorem keyWait_of_debounce (h : Performs s i t) (hk : s.ks = .debounce) (hi : i.eventClass = some .key) :
    i = .keyWait ∧ t = s := by
  cases h with
  | keyWait => exact ⟨rfl, rfl⟩
  | keyIdle _ hk' | keyDrop _ hk' | keyRowMiss _ hk' | keyRowHit _ _ hk' | keyColMiss _ hk' | keyColUnused _ hk'
  | keyColDigit _ _ hk' => exact absurd (hk'.symm.trans hk) (by decide)
  | _ => simp [Instr.eventClass] at hi

theorem debounce_writers (h : Performs s i t) (hI7 : DebounceRuns s)
    (hd : t.debLeft ≠ s.debLeft ∨ t.tDeb ≠ s.tDeb) :
    i = .keyColDigit ∧ s.ks = .cols ∧ s.tDeb.run = false ∨ i = .cnt ∧ s.ks = .debounce := by
  cases h with
  | keyColDigit _ _ hk => exact .inl ⟨rfl, hk, hI7.stopped (by simp [hk])⟩
  | cnt =>
    refine .inr ⟨rfl, by_contra fun hk => ?_⟩
    obtain ⟨-, hleft, hdeb⟩ := cntEffect_of_tDeb_stopped (hI7.stopped hk)
    rcases hd with hd | hd
    · exact hd hleft
    · exact hd hdeb
  | _ => rcases hd with hd | hd <;> exact absurd rfl hd

/-! ## The display -/

theorem display_writers (h : Performs s i t)
    (hd : t.activeDigitIndex ≠ s.activeDigitIndex ∨ t.phase ≠ s.phase ∨ t.digitEn ≠ s.digitEn ∨ t.seg ≠ s.seg) :
    i.eventClass = some .dsp := by
  cases h with
  | dspLoad | dspEn => rfl
  | _ => rcases hd with hd | hd | hd | hd <;> exact absurd rfl hd

theorem tDispCnt_writers (h : Performs s i t) (hd : t.tDispCnt ≠ s.tDispCnt) : i = .cnt := by
  cases h with
  | cnt => rfl
  | _ => exact absurd rfl hd

theorem tfDisp_setters (h : Performs s i t) (ht : t.tfDisp = true) (hs : s.tfDisp = false) : i = .cnt := by
  cases h with
  | cnt => rfl
  | dspLoad | dspEn => exact absurd ht Bool.false_ne_true
  | _ => exact absurd (hs.symm.trans ht) Bool.false_ne_true

theorem tfDisp_clearers (h : Performs s i t) (ht : t.tfDisp = false) (hs : s.tfDisp = true) :
    i.eventClass = some .dsp := by
  cases h with
  | dspLoad | dspEn => rfl
  | cnt _ hdisp => exact absurd (hdisp.symm.trans hs) Bool.false_ne_true
  | _ => exact absurd (ht.symm.trans hs) Bool.false_ne_true

/-! ## What is outside the block (R45) -/

theorem outside_kept (h : Performs s i t) :
    t.cfg = s.cfg ∧ t.pressed = s.pressed ∧ t.trace = s.trace ∧ t.envCount = s.envCount := by
  cases h <;> exact ⟨rfl, rfl, rfl, rfl⟩

end Performs

/-- Settles O43: the rows of R32, one lemma each; of R33 only I7 is used, for the rows of the debounce wait. -/
theorem eachFieldHasItsWriters : Obligations.EachFieldHasItsWriters := by
  intro i s t hInv hexec
  have h := performs_of_exec hexec
  obtain ⟨-, -, -, -, -, hI7, -, -⟩ := hInv
  exact ⟨h.d_writers, h.activeFlag_writers, h.plan_writers, h.chunk_writers, h.lines_writers, h.tSyn_cnt_writers,
    h.tfSyn_eq_false_of_cnt, h.tSyn_run_writers, h.tfSyn_setters, h.tfSyn_clearers, h.scan_writers hI7,
    h.keyWait_of_debounce, h.debounce_writers hI7, h.display_writers, h.tDispCnt_writers, h.tfDisp_setters,
    h.tfDisp_clearers, h.outside_kept⟩

end Machine
end Sys2Proof

/-!
PROOFS. A timer channel counted many times (R36, R41): a stopped one stands still, a running one counts up to its
wrap, which is `m - cnt` counts away.
-/

namespace Sys2Proof.Machine

theorem countTimes_eq_iterate (m n : Nat) (c : Channel) : countTimes m n c = (Channel.count m)^[n] c := by
  induction n generalizing c with
  | zero => rfl
  | succ n ih => exact ih (c.count m)

/-- Counting once more, seen from the far end. -/
theorem countTimes_succ (m n : Nat) (c : Channel) : countTimes m (n + 1) c = (countTimes m n c).count m := by
  simp only [countTimes_eq_iterate, Function.iterate_succ_apply']

theorem countTimes_of_stopped (m n : Nat) {c : Channel} (h : c.run = false) : countTimes m n c = c := by
  rw [countTimes_eq_iterate]
  exact Function.iterate_fixed (Channel.count_of_stopped h) n

theorem completes_running (m x : Nat) : (⟨x, true⟩ : Channel).completes m = decide (x = m - 1) := by
  simp [Channel.completes]

/-- Short of the wrap a running channel counts up. -/
theorem countTimes_running {m x n : Nat} (h : x + n < m) : countTimes m n ⟨x, true⟩ = ⟨x + n, true⟩ := by
  induction n with
  | zero => rfl
  | succ n ih =>
    rw [countTimes_succ, ih (by omega)]
    have hne : x + n ≠ m - 1 := by omega
    simp [Channel.count, hne, Nat.add_assoc]

/-- R41, R42: a running channel at `x` completes at count number `m - x`, at none before, and then stands at 0. -/
theorem running_channel_wraps {m x n : Nat} (hx : x < m) (hn : m - x = n) :
    (∀ k, k + 1 < n → (countTimes m k ⟨x, true⟩).completes m = false) ∧
    (countTimes m (n - 1) ⟨x, true⟩).completes m = true ∧ countTimes m n ⟨x, true⟩ = ⟨0, true⟩ := by
  obtain ⟨j, rfl⟩ : ∃ j, n = j + 1 := ⟨n - 1, by omega⟩
  have hlast : countTimes m j ⟨x, true⟩ = ⟨m - 1, true⟩ := by
    rw [countTimes_running (by omega)]
    congr 1
    omega
  refine ⟨fun k hk => ?_, ?_, ?_⟩
  · rw [countTimes_running (by omega), completes_running, decide_eq_false_iff_not]
    omega
  · rw [Nat.add_sub_cancel, hlast, completes_running, decide_eq_true rfl]
  · rw [countTimes_succ, hlast]
    simp [Channel.count]

/-- R36 (d), R38: the degenerate reload is the reload that leaves `ZERO_CHUNK_CYCLES` to go. -/
theorem reloadCount_timerRange (c : Config) :
    reloadCount c.toParams c.timerRange = reloadCount c.toParams (c.timerRange - c.zeroChunkCycles) := by
  have hrange := c.two_le_timerRange
  obtain ⟨hpos, -⟩ := c.zeroChunk_range
  rw [reloadCount, reloadCount, if_neg (by omega), if_pos (by omega)]

theorem configure_running (p : Params) (r : Nat) {ch : Channel} (h : ch.run = true) :
    ch.configure p r = ⟨reloadCount p r, true⟩ := by
  rw [Channel.configure, h]

/-- Settles O14: `reloadCount_spec` places the stored count, `running_channel_wraps` counts from there to the wrap and
from the wrap to the next. -/
theorem timerChannelContract : Obligations.TimerChannelContract := by
  intro c ch r n _ hn
  obtain ⟨hlt, hdist⟩ := reloadCount_spec c r
  have hrange := c.two_le_timerRange
  obtain ⟨hbefore, hat, hafter⟩ := running_channel_wraps (x := 0) (by omega) (Nat.sub_zero c.timerRange)
  refine ⟨fun hrun => ?_, hbefore, hat, hafter, fun k => ?_, fun _ => rfl, ?_⟩
  · rw [configure_running _ _ hrun]
    exact running_channel_wraps hlt (hdist.trans hn.symm)
  · rw [countTimes_of_stopped _ _ ch.stop_run]
    exact ⟨rfl, Channel.completes_of_stopped ch.stop_run⟩
  · rw [Channel.configure, Channel.configure, reloadCount_timerRange]

end Sys2Proof.Machine

/-!
PROOFS. The reset table of R44.
-/

namespace Sys2Proof.Machine

/-- Settles O10: a reset input differs from reset only in what is outside the block (the key lines, the trace, the
count of choices), and no row of the table is about that. -/
theorem resetLeavesTheTable : Obligations.ResetLeavesTheTable := by
  refine ⟨rfl, ?_⟩
  rintro c r (rfl | ⟨s, rfl, rfl⟩)
  · simp [State.resetWith]
  · simp [assertReset, State.resetWith]

end Sys2Proof.Machine

/-!
PROOFS. The decomposer (spec/40_decomposer.md): the half-period as a number, and the three activations, each by the
operation the selector selects, the state it answers and what it notes.
-/

namespace Sys2Proof

/-! ## The half-period (R113, R114) -/

/-- R113: on the naturals the clamp at 0 is the truncated subtraction. -/
theorem halfPeriod_eq_sub (p : Params) (f : Nat) : halfPeriod p f = rawHalfPeriod p f - p.overhead :=
  Int.toNat_sub _ _

/-- R114: dividing by `f * (p/q)` is dividing `500000 * q` by `f * p`, so the natural division is the floor of the
exact quotient. -/
theorem rawHalfPeriod_eq_floor (p : Params) (f : Nat) :
    (rawHalfPeriod p f : Int) = ⌊(500000 : ℚ) / ((f : ℚ) * ((p.cycleNum : ℚ) / (p.cycleDen : ℚ)))⌋ := by
  have hquot : (500000 : ℚ) / ((f : ℚ) * ((p.cycleNum : ℚ) / (p.cycleDen : ℚ))) =
      ((500000 * p.cycleDen : ℕ) : ℚ) / ((f * p.cycleNum : ℕ) : ℚ) := by
    push_cast
    rw [← mul_div_assoc, div_div_eq_mul_div]
  rw [hquot, Rat.floor_natCast_div_natCast, rawHalfPeriod, Int.natCast_ediv]

/-- Settles O19: `rawHalfPeriod_eq_floor` is the quotient, and `Int.toNat` is the clamp. -/
theorem halfPeriodIsTheExactQuotient : Obligations.HalfPeriodIsTheExactQuotient := by
  intro c f _
  rw [← rawHalfPeriod_eq_floor, halfPeriod, Int.toNat_eq_max, max_comm]

/-! ## The LONG plan (R117) -/

/-- R117: above `TIMER_RANGE` the `N + 1` FULL chunks are as many as fit into the half-period. -/
theorem chainOf_add_one {p : Params} {h : Nat} (hpos : 0 < p.timerRange) (hlong : p.timerRange < h) :
    chainOf p h + 1 = h / p.timerRange :=
  Nat.sub_add_cancel (Nat.div_pos hlong.le hpos)

/-- R117: what the FULL chunks leave for the TRIM chunk is the remainder. -/
theorem Plan.long_trim_eq_mod {p : Params} {h : Nat} (hpos : 0 < p.timerRange) (hlong : p.timerRange < h) :
    (Plan.long p h).trim = p.timerRange - h % p.timerRange := by
  rw [Plan.long_trim, chainOf_add_one hpos hlong, Nat.mod_eq_sub_div_mul]

namespace Machine

/-! ## Which activation is selected (R90, R115) -/

theorem decodeSel_formSel_ctl_of_inactive {s : State} (hA : s.activeFlag = false) :
    decodeSel (formSel .ctl s) =
      some (if freqNow s = 0 then .actZ else if s.cfg.timerRange < halfNow s then .actL else .actS) := by
  have hZ : selZ s = decide (freqNow s = 0) := by rw [selZ, hA]; rfl
  have hL : selL s = (decide (freqNow s ≠ 0) && decide (s.cfg.timerRange < halfNow s)) := by
    rw [selL, hA]; rfl
  rw [decodeSel_formSel_ctl, hA, hZ, hL]
  by_cases hf : freqNow s = 0
  · simp [hf]
  · by_cases hh : s.cfg.timerRange < halfNow s <;> simp [hf, hh]

/-! ## The state an activation answers (R112, R124) -/

/-- An activation that starts `T_SYN` writes `ActiveFlag`, the plan and the channel, and nothing else. -/
theorem startSyn_configureSyn_activate (r : Nat) (pl : Plan) (s : State) :
    startSyn (configureSyn r (activate pl s)) = { s with
      activeFlag := true, mode := pl.mode, chunkKind := pl.kind, remainingFullChunks := pl.chain,
      chainCount := pl.chain, trimReloadValue := pl.trim, tSyn := ⟨reloadCount s.cfg.toParams r, true⟩ } := rfl

/-! ## What an activation notes (R220) -/

theorem delayNegative_eq (s : State) :
    delayNegative s = decide (rawHalfPeriod s.cfg.toParams (freqNow s) < s.cfg.overhead) := by
  rw [delayNegative, decide_eq_decide]
  omega

/-- R113, R118: a negative delay is clamped to a half-period of 0, so both conditions are noted. -/
theorem noted_actS (k : KeyMatrix) (s : State) :
    noted .actS k s =
      if rawHalfPeriod s.cfg.toParams (freqNow s) < s.cfg.overhead then [.negDelayClamp, .zeroLengthChunk]
      else if halfNow s = 0 then [.zeroLengthChunk] else [] := by
  rw [noted, delayNegative_eq]
  by_cases hneg : rawHalfPeriod s.cfg.toParams (freqNow s) < s.cfg.overhead
  · have hzero : halfNow s = 0 := by
      rw [halfNow, halfPeriod_eq_sub]
      exact Nat.sub_eq_zero_of_le hneg.le
    simp [noteIf, hneg, hzero]
  · simp [noteIf, hneg]

theorem noted_actL (k : KeyMatrix) (s : State) :
    noted .actL k s = if halfNow s % s.cfg.timerRange = 0 then [.zeroLengthChunk] else [] := by
  simp [noted, noteIf]

/-! ## The three activations -/

/-- Settles O15: with all digits zero `f` is 0, and the idle plan is written with `T_SYN` left as it was. -/
theorem activationWithZeroFrequency : Obligations.ActivationWithZeroFrequency := by
  intro s k hA hd
  have hf : freqNow s = 0 := by rw [freqNow, hd]; rfl
  refine ⟨?_, exec_of_performs (.actZ hA hf), rfl⟩
  rw [decodeSel_formSel_ctl_of_inactive hA, if_pos hf]

/-- Settles O16: the stored count is `reloadCount` of the plan's own trim value. -/
theorem activationIntoShortMode : Obligations.ActivationIntoShortMode := by
  intro s k f q h hfreq hraw hhalf hA hf hle
  obtain rfl : f = freqNow s := hfreq
  obtain rfl : q = rawHalfPeriod s.cfg.toParams (freqNow s) := hraw
  obtain rfl : h = halfNow s := hhalf.trans (halfPeriod_eq_sub _ _).symm
  refine ⟨?_, ?_, noted_actS k s⟩
  · rw [decodeSel_formSel_ctl_of_inactive hA, if_neg hf, if_neg hle.not_gt]
  · rw [exec_of_performs (.actS hA hf hle), startSyn_configureSyn_activate]
    rfl

/-- Settles O17: `Plan.long_trim_eq_mod` is the trim value, and the first FULL chunk counts from 0. -/
theorem activationIntoLongMode : Obligations.ActivationIntoLongMode := by
  intro s k f h hfreq hhalf hA hf hlt
  obtain rfl : f = freqNow s := hfreq
  obtain rfl : h = halfNow s := hhalf.trans (halfPeriod_eq_sub _ _).symm
  have hpos : 0 < s.cfg.timerRange := two_pos.trans_le s.cfg.two_le_timerRange
  refine ⟨?_, ?_, noted_actL k s⟩
  · rw [decodeSel_formSel_ctl_of_inactive hA, if_neg hf, if_pos hlt]
  · rw [exec_of_performs (.actL hA hf hlt), startSyn_configureSyn_activate, reloadCount_zero,
      Plan.long_trim_eq_mod hpos hlt]
    rfl

end Machine
end Sys2Proof

/-!
PROOFS. The toggle generator (spec/41_toggle_generator.md): `CNT` as one count of each of the three channels, and the
five completions, each selected by `SEL` wherever `Performs` lets it run.
-/

namespace Sys2Proof

/-! ## One count of a channel (R41) -/

theorem Channel.count_eq_ite (m : Nat) (c : Channel) :
    c.count m = if c.run = true then (if c.cnt = m - 1 then ⟨0, true⟩ else ⟨c.cnt + 1, true⟩) else c := by
  rcases c.count_cases m with ⟨hrun, hcount, -⟩ | ⟨hrun, hlast, hcount, -⟩ | ⟨hrun, hlast, hcount, -⟩
  · rw [hcount, if_neg (Bool.eq_false_iff.1 hrun)]
  · rw [hcount, if_pos hrun, if_pos hlast, hrun]
  · rw [hcount, if_pos hrun, if_neg hlast, hrun]

namespace Machine

variable {i : Instr} {s t : State}

/-! ## `CNT`: the three counts (R131 to R133) -/

/-- R131, where no completion is pending yet. -/
theorem countSyn_eq (h : s.tfSyn = false) : countSyn s = { s with
    tSyn := if s.tSyn.run = true then
        (if s.tSyn.cnt = s.cfg.timerRange - 1 then ⟨0, true⟩ else ⟨s.tSyn.cnt + 1, true⟩) else s.tSyn
    tfSyn := s.tSyn.run && decide (s.tSyn.cnt = s.cfg.timerRange - 1) } := by
  simp [countSyn, Channel.count_eq_ite, Channel.completes, h]

/-- R132: `T_DEB` counts as any channel does, and at a wrap it goes on running while spans are left. -/
theorem countDeb_eq (s : State) : countDeb s = { s with
    tDeb := if s.tDeb.run = true then
        (if s.tDeb.cnt = s.cfg.timerRange - 1 then ⟨0, !decide (s.debLeft - 1 = 0)⟩ else ⟨s.tDeb.cnt + 1, true⟩)
        else s.tDeb
    debLeft := if s.tDeb.run = true ∧ s.tDeb.cnt = s.cfg.timerRange - 1 then s.debLeft - 1 else s.debLeft
    ks := if s.tDeb.run = true ∧ s.tDeb.cnt = s.cfg.timerRange - 1 ∧ s.debLeft - 1 = 0 then .rows else s.ks } := by
  rcases s.tDeb.count_cases s.cfg.timerRange with
    ⟨hrun, hcount, hcompl⟩ | ⟨hrun, hlast, hcount, hcompl⟩ | ⟨hrun, hlast, hcount, hcompl⟩
  · simp [countDeb, debounceEnds, hrun, hcount, hcompl]
  · by_cases hleft : s.debLeft - 1#3 = 0#3 <;>
      simp [countDeb, debounceEnds, hrun, hlast, hcount, hcompl, hleft, Channel.stop]
  · simp [countDeb, debounceEnds, hrun, hlast, hcount, hcompl]

/-- R133, where no display tick is pending yet. -/
theorem countDisp_eq (h : s.tfDisp = false) : countDisp s = { s with
    tDispCnt := if s.tDispCnt = s.cfg.dispPeriod - 1 then 0 else s.tDispCnt + 1
    tfDisp := decide (s.tDispCnt = s.cfg.dispPeriod - 1) } := by
  simp [countDisp, displayTicks, h]

/-- Settles O13: the three counts touch disjoint state (R130), so each is rewritten by its own equation. I7 and I9 are
not needed: the equations hold outside the invariants too. -/
theorem countAdvancesTheThreeChannels : Obligations.CountAdvancesTheThreeChannels := by
  intro s
  refine ⟨fun hpending t hexec => ?_, fun hsyn hdisp _ _ => ⟨decodeSel_formSel_cnt s, ?_⟩⟩
  · cases performs_of_exec hexec with
    | cnt hsyn hdisp => simp [hsyn, hdisp] at hpending
  · rw [exec_of_performs (.cnt hsyn hdisp), cntEffect, countSyn_eq, countDeb_eq, countDisp_eq]
    · exact hdisp
    · exact hsyn

/-! ## The completions: which is selected, and the reload (R89, R38) -/

/-- Where a SYN operation runs, its selector selects it. -/
theorem Performs.decodeSel_formSel_syn (h : Performs s i t) (hi : i.eventClass = some .syn) :
    decodeSel (formSel .syn s) = some i := by
  rw [Machine.decodeSel_formSel_syn]
  cases h with
  | synNop _ hm | synSt _ hm => simp [hm]
  | synLf _ hm hc hr | synLr _ hm hc hr => simp [hm, hc, hr, selNZ]
  | synLt _ hm hc => simp [hm, hc]
  | _ => simp [Instr.eventClass] at hi

/-- R38: a configure writes the count of `T_SYN`; the value `TIMER_RANGE` is the degenerate reload. -/
theorem configureSyn_eq (r : Nat) (s : State) : configureSyn r s = { s with
    tSyn := ⟨if r < s.cfg.timerRange then r else s.cfg.timerRange - s.cfg.zeroChunkCycles, s.tSyn.run⟩ } := rfl

theorem configureSyn_zero (s : State) : configureSyn 0 s = { s with tSyn := ⟨0, s.tSyn.run⟩ } := by
  rw [configureSyn, Channel.configure, reloadCount_zero]

/-! ## The five completions -/

/-- Settles O25: the effect is `clearTfSyn` alone. -/
theorem completionWhileIdleIsConsumed : Obligations.CompletionWhileIdleIsConsumed := by
  intro s k hsyn hm
  have h := Performs.synNop hsyn hm
  exact ⟨h.decodeSel_formSel_syn rfl, exec_of_performs h, rfl⟩

/-- Settles O26: `configureSyn_eq` gives the count for the degenerate value too, and for a value above `TIMER_RANGE`. -/
theorem shortCompletionTogglesAndReloads : Obligations.ShortCompletionTogglesAndReloads := by
  intro s k hsyn hm _
  have h := Performs.synSt hsyn hm
  refine ⟨h.decodeSel_formSel_syn rfl, ?_, rfl⟩
  rw [exec_of_performs h, configureSyn_eq]
  rfl

/-- Settles O27: no `configureSyn` stands in the effect, so `T_SYN` counts on. -/
theorem fullChunkCompletionCountsDown : Obligations.FullChunkCompletionCountsDown := by
  intro s k hsyn hm hc hr
  have h := Performs.synLf hsyn hm hc hr
  exact ⟨h.decodeSel_formSel_syn rfl, exec_of_performs h, rfl⟩

/-- Settles O28: as SYN.ST reloads, without the toggle. -/
theorem lastFullChunkCompletionLoadsTrim : Obligations.LastFullChunkCompletionLoadsTrim := by
  intro s k hsyn hm hc hr _
  have h := Performs.synLr hsyn hm hc hr
  refine ⟨h.decodeSel_formSel_syn rfl, ?_, rfl⟩
  rw [exec_of_performs h, configureSyn_eq]
  rfl

/-- Settles O29: the next half-period starts with a FULL chunk counted from 0. -/
theorem trimCompletionTogglesAndRestarts : Obligations.TrimCompletionTogglesAndRestarts := by
  intro s k hsyn hm hc
  have h := Performs.synLt hsyn hm hc
  refine ⟨h.decodeSel_formSel_syn rfl, ?_, rfl⟩
  rw [exec_of_performs h, configureSyn_zero]
  rfl

end Machine
end Sys2Proof

/-!
PROOFS. The keypad path (spec/42_keypad.md): what a scan finds, as the selector's bits `H` and `G` and as the digit,
and the eight KEY operations, each selected by `SEL` wherever `Performs` lets it run.
-/

namespace Sys2Proof

/-! ## What a scan finds (R163, R166) -/

theorem rowFound_eq_none {m : KeyMatrix} (h : ∀ r c, m.read r c = false) : rowFound m = none := by
  simp [rowFound, fun r => rowReports_eq_false (h r)]

theorem colFound_eq_none {m : KeyMatrix} {r : KeyRow} (h : ∀ c, m.read r c = false) : colFound m r = none := by
  simp [colFound, h]

/-- R169: the position looked up in `KEYMAP` is that of the lowest column down in the latched row. -/
theorem digitFound_of_colFound {m : KeyMatrix} {r : KeyRow} {c : KeyCol} (k : KeyMap)
    (h : colFound m r = some c) : digitFound k m r = k.read r c := by
  rw [digitFound, h]

namespace Machine

variable {i : Instr} {s t : State}

/-! ## Which KEY operation is selected (R89, R90) -/

/-- `H` in phase 1: whether the scan of the rows finds one. -/
theorem selH_of_rows (hA : s.activeFlag = false) (hk : s.ks = .rows) : selH s = (rowFound s.pressed).isSome := by
  rw [selH, hA, hk, rowFound_isSome]
  rfl

/-- `H` in phase 2: whether the scan of the latched row finds a column. -/
theorem selH_of_cols (hA : s.activeFlag = false) (hk : s.ks = .cols) :
    selH s = (colFound s.pressed s.rowLatch).isSome := by
  rw [selH, hA, hk, colFound_isSome]
  rfl

/-- `G` in phase 2: the conjunct `H` = 1 adds nothing, since a digit is found only where a key is. -/
theorem selG_of_cols (hA : s.activeFlag = false) (hk : s.ks = .cols) :
    selG s = (digitFound s.cfg.keyMap s.pressed s.rowLatch).isSome := by
  have himp := digitFound_isSome_imp s.cfg.keyMap s.pressed s.rowLatch
  rw [selG, selH_of_cols hA hk, hA, hk]
  cases hdig : (digitFound s.cfg.keyMap s.pressed s.rowLatch).isSome with
  | false => simp
  | true => simp [himp hdig]

/-- Where a KEY operation runs, its selector selects it. -/
theorem Performs.decodeSel_formSel_key (h : Performs s i t) (hi : i.eventClass = some .key) :
    decodeSel (formSel .key s) = some i := by
  rw [Machine.decodeSel_formSel_key]
  cases h with
  | keyIdle hA hk | keyDrop hA hk => simp [hA, hk]
  | keyRowMiss hA hk hrow | keyRowHit _ hA hk hrow => simp [hA, hk, selH_of_rows hA hk, hrow]
  | keyColMiss hA hk hcol => simp [hA, hk, selH_of_cols hA hk, hcol]
  | keyColUnused hA hk hcol hdig => simp [hA, hk, selH_of_cols hA hk, selG_of_cols hA hk, hcol, hdig]
  | keyColDigit v hA hk hdig =>
    have hcol := digitFound_isSome_imp s.cfg.keyMap s.pressed s.rowLatch (by rw [hdig]; rfl)
    simp [hA, hk, selH_of_cols hA hk, selG_of_cols hA hk, hcol, hdig]
  | keyWait hk => simp [hk]
  | _ => simp [Instr.eventClass] at hi

/-! ## What KEY.COL.DIGIT writes and notes (R169) -/

/-- R172: six spans are left, and `T_DEB` runs from 0 whatever it held. -/
theorem startDebounce_eq (s : State) :
    startDebounce s = { s with debLeft := 6, tDeb := ⟨0, true⟩, ks := .debounce } := by
  rw [startDebounce, Channel.configure, reloadCount_zero]
  rfl

theorem noted_keyColDigit (k : KeyMatrix) (s : State) :
    noted .keyColDigit k s = if 1 < keysDown k ∨ 1 < keysDown s.pressed then [.multiKey] else [] := by
  simp [noted, noteIf]

/-! ## The KEY operations -/

/-- Settles O30: the three effects are the state itself. -/
theorem idleMissAndWaitChangeNothing : Obligations.IdleMissAndWaitChangeNothing := by
  intro s k
  refine ⟨fun hA hk => ?_, fun hA hk hnone => ?_, fun hk => ?_⟩
  · have h := Performs.keyIdle hA hk
    exact ⟨h.decodeSel_formSel_key rfl, exec_of_performs h, rfl⟩
  · have h := Performs.keyRowMiss hA hk (rowFound_eq_none hnone)
    exact ⟨h.decodeSel_formSel_key rfl, exec_of_performs h, rfl⟩
  · have h := Performs.keyWait hk
    exact ⟨h.decodeSel_formSel_key rfl, exec_of_performs h, rfl⟩

/-- Settles O31: `rowFound_eq_some` identifies the row the scan finds with the lowest one that has a key down. -/
theorem rowHitLatchesTheLowestRow : Obligations.RowHitLatchesTheLowestRow := by
  intro s k r c hA hk hdown hlow
  have hrow : rowFound s.pressed = some r :=
    rowFound_eq_some (rowReports_of_read hdown) fun r' hlt => rowReports_eq_false fun c' => hlow r' c' hlt
  have h := Performs.keyRowHit r hA hk hrow
  exact ⟨h.decodeSel_formSel_key rfl, exec_of_performs h, rfl⟩

/-- Settles O32: the three effects are `backToRows`. -/
theorem scanWithoutDigitGoesBackToRows : Obligations.ScanWithoutDigitGoesBackToRows := by
  intro s k hk
  refine ⟨fun hA => ?_, fun hA hnone => ?_, fun c hA hdown hlow hunused => ?_⟩
  · have h := Performs.keyDrop hA hk
    exact ⟨h.decodeSel_formSel_key rfl, exec_of_performs h, rfl⟩
  · have h := Performs.keyColMiss hA hk (colFound_eq_none hnone)
    exact ⟨h.decodeSel_formSel_key rfl, exec_of_performs h, rfl⟩
  · have hcol := colFound_eq_some hdown hlow
    have hdig := (digitFound_of_colFound s.cfg.keyMap hcol).trans hunused
    have h := Performs.keyColUnused hA hk (by rw [hcol]; rfl) hdig
    exact ⟨h.decodeSel_formSel_key rfl, exec_of_performs h, rfl⟩

/-- Settles O33: the scan finds the lowest column down (R166), so the digit shifted in is the one mapped to it. -/
theorem digitKeyShiftsInAndStartsTheWait : Obligations.DigitKeyShiftsInAndStartsTheWait := by
  intro s k c v hA hk hdown hlow hmap
  have hdig := (digitFound_of_colFound s.cfg.keyMap (colFound_eq_some hdown hlow)).trans hmap
  have h := Performs.keyColDigit v hA hk hdig
  refine ⟨h.decodeSel_formSel_key rfl, ?_, noted_keyColDigit k s⟩
  rw [exec_of_performs h, startDebounce_eq]
  rfl

end Machine
end Sys2Proof

/-!
PROOFS. The display refresher (spec/43_display_refresher.md): the two DSP operations, each selected by `SEL` wherever
`Performs` lets it run.
-/

namespace Sys2Proof.Machine

variable {i : Instr} {s t : State}

/-- Where a DSP operation runs, its selector selects it, with the index of the position up (R89, R90). -/
theorem Performs.decodeSel_formSel_dsp (h : Performs s i t) (hi : i.eventClass = some .dsp) :
    decodeSel (formSel .dsp s) = some i := by
  rw [Machine.decodeSel_formSel_dsp]
  cases h with
  | dspLoad _ hp | dspEn _ hp => rw [hp]
  | _ => simp [Instr.eventClass] at hi

/-- Settles O37: the disable and the segment change are one effect, on top of `clearTfDisp`. -/
theorem displayLoadTick : Obligations.DisplayLoadTick := by
  intro s k hdisp hp
  have h := Performs.dspLoad hdisp hp
  exact ⟨h.decodeSel_formSel_dsp rfl, exec_of_performs h, rfl⟩

/-- Settles O38: the bit set is `enableBit` of the position up, and the index moves on modulo 4 as a `Position`. -/
theorem displayEnableTick : Obligations.DisplayEnableTick := by
  intro s k hdisp hp
  have h := Performs.dspEn hdisp hp
  exact ⟨h.decodeSel_formSel_dsp rfl, exec_of_performs h, rfl⟩

end Sys2Proof.Machine

/-!
PROOFS. The control toggle (spec/44_control_toggle.md): in every state one of the four CTL operations runs, it is the
one the edge performs, and it inverts `ActiveFlag`.
-/

namespace Sys2Proof.Machine

variable {i : Instr} {s t : State}

/-- Where a CTL operation runs, its selector selects it. -/
theorem Performs.decodeSel_formSel_ctl (h : Performs s i t) (hi : i.eventClass = some .ctl) :
    decodeSel (formSel .ctl s) = some i := by
  cases h with
  | deact hA => rw [Machine.decodeSel_formSel_ctl, if_pos hA]
  | actZ hA hf => rw [decodeSel_formSel_ctl_of_inactive hA, if_pos hf]
  | actS hA hf hh => rw [decodeSel_formSel_ctl_of_inactive hA, if_neg hf, if_neg hh.not_gt]
  | actL hA hf hh => rw [decodeSel_formSel_ctl_of_inactive hA, if_neg hf, if_pos hh]
  | _ => simp [Instr.eventClass] at hi

/-- R203, R201: `DEACT` runs in every active state, and `f` and `h` leave one activation to every inactive one. -/
theorem exists_performs_ctl (s : State) : ∃ i t, Performs s i t ∧ i.eventClass = some .ctl := by
  cases hA : s.activeFlag with
  | true => exact ⟨_, _, .deact hA, rfl⟩
  | false =>
    by_cases hf : freqNow s = 0
    · exact ⟨_, _, .actZ hA hf, rfl⟩
    · rcases le_or_gt (halfNow s) s.cfg.timerRange with hh | hh
      · exact ⟨_, _, .actS hA hf hh, rfl⟩
      · exact ⟨_, _, .actL hA hf hh, rfl⟩

/-- R200: the edge toggles `ActiveFlag`, whichever operation serves it. -/
theorem Performs.activeFlag_toggles (h : Performs s i t) (hi : i.eventClass = some .ctl) :
    t.activeFlag = !s.activeFlag := by
  cases h with
  | actZ hA | actS hA | actL hA | deact hA => rw [hA]; rfl
  | _ => simp [Instr.eventClass] at hi

/-- Settles O18: `deactEffect` writes what R206 lists, and its frame keeps the keypad state. -/
theorem deactivationClearsEverything : Obligations.DeactivationClearsEverything := by
  intro s k hA
  have h := Performs.deact hA
  exact ⟨h.decodeSel_formSel_ctl rfl, exec_of_performs h, rfl⟩

/-- Settles O20: some CTL operation serves the edge, and any other that runs in the same state is selected by the same
selector, so it answers the same state. -/
theorem controlEdgesAlternate : Obligations.ControlEdgesAlternate := by
  intro s
  obtain ⟨i, t, h, hi⟩ := exists_performs_ctl s
  have hserve : serve .ctl s = .next t := by
    rw [serve_eq_exec (h.decodeSel_formSel_ctl hi), exec_of_performs h]
  have hanswers {j : Instr} {u : State} (hj : Performs s j u) (hctl : j.eventClass = some .ctl) :
      exec j s = .next t := by
    rw [← serve_eq_exec (hj.decodeSel_formSel_ctl hctl), hserve]
  exact ⟨t, hserve, h.activeFlag_toggles hi, fun hA => hanswers (.deact hA) rfl, fun hA =>
    ⟨fun hf => hanswers (.actZ hA hf) rfl, fun hf hh => hanswers (.actS hA hf hh) rfl,
      fun hf hh => hanswers (.actL hA hf hh) rfl⟩⟩

end Sys2Proof.Machine

/-!
PROOFS. Reset and boot (spec/70_reset_and_hazards.md): the check a `Config` passed, read back as R269 words it.
-/

namespace Sys2Proof

open Machine

/-- R269: `timerRangeOk` compares with the power of the logarithm, whose exponent is not 0 since the
range is not 1. -/
theorem Config.timerRange_eq_two_pow (c : Config) : ∃ k, 1 ≤ k ∧ c.timerRange = 2 ^ k := by
  have hok : 2 ≤ c.timerRange ∧ 2 ^ c.timerRange.log2 = c.timerRange := by
    simpa [Params.timerRangeOk] using c.admissible_parts.1
  obtain ⟨htwo, hpow⟩ := hok
  refine ⟨c.timerRange.log2, Nat.one_le_iff_ne_zero.mpr fun hzero => ?_, hpow.symm⟩
  rw [hzero] at hpow
  omega

/-! ## `KEYMAP` puts each digit on one key -/

/-- The digits on the mapped positions, in row-major order. -/
def mappedDigits (k : KeyMap) : List Digit := k.entries.filterMap id

theorem mem_mappedDigits {k : KeyMap} {v : Digit} : v ∈ mappedDigits k ↔ some v ∈ k.entries := by
  simp [mappedDigits]

/-- `KEYMAP` read position by position, so that a duplicate digit is one digit on two positions. -/
theorem mappedDigits_eq_filterMap_read (k : KeyMap) :
    mappedDigits k = keyPositions.filterMap fun p => k.read p.1 p.2 := by
  have hentries : k.entries = keyPositions.map fun p => k.read p.1 p.2 := rfl
  rw [mappedDigits, hentries, List.filterMap_map, Function.id_comp]

theorem Config.mappedDigits_length (c : Config) : (mappedDigits c.keyMap).length = 10 := by
  obtain ⟨-, -, -, -, hkeys, -⟩ := c.admissible_parts
  simp only [Params.keyMapOk, Bool.and_eq_true, decide_eq_true_eq] at hkeys
  exact hkeys.1

/-- R269, "one to each digit": all ten digits are among the ten mapped ones, so these are the digits in some order. -/
theorem Config.mappedDigits_perm (c : Config) : (List.finRange 10).Perm (mappedDigits c.keyMap) := by
  have hsub : List.finRange 10 ⊆ mappedDigits c.keyMap := fun v _ => mem_mappedDigits.mpr (c.keyMap_total v)
  refine (List.subperm_of_subset (List.nodup_finRange 10) hsub).perm_of_length_le ?_
  rw [c.mappedDigits_length, List.length_finRange]

theorem mem_keyPositions (p : KeyRow × KeyCol) : p ∈ keyPositions := by
  revert p; decide

/-- No digit stands on two keys: the mapped digits have no duplicates. -/
theorem Config.keyMap_read_inj (c : Config) {v : Digit} {p q : KeyRow × KeyCol}
    (hp : c.keyMap.read p.1 p.2 = some v) (hq : c.keyMap.read q.1 q.2 = some v) : p = q := by
  have hnodup : (mappedDigits c.keyMap).Nodup := c.mappedDigits_perm.nodup (List.nodup_finRange 10)
  rw [mappedDigits_eq_filterMap_read, List.Nodup, List.pairwise_filterMap] at hnodup
  have hpositions : keyPositions.Pairwise fun p q =>
      c.keyMap.read p.1 p.2 = some v → c.keyMap.read q.1 q.2 = some v → p = q :=
    hnodup.imp fun hdistinct hv hv' => absurd rfl (hdistinct v hv v hv')
  exact hpositions.forall_of_forall_of_flip (fun _ _ _ _ => rfl)
    (hpositions.imp fun heq hv hv' => (heq hv' hv).symm) (mem_keyPositions p) (mem_keyPositions q) hp hq

/-- Settles O12: each conjunct is a lemma about `Config`; a digit's key is the one `enter` holds
(`keysFor_spec`), and no other. -/
theorem everyConfigurationIsAdmissible : Obligations.EveryConfigurationIsAdmissible := by
  intro c
  obtain ⟨hnum, hden⟩ := c.cycle_pos
  obtain ⟨hzlow, hzhigh⟩ := c.zeroChunk_range
  refine ⟨c.timerRange_eq_two_pow, hnum, hden, hzlow, hzhigh, c.nMax_lt, fun v => ?_, c.dispPeriod_pos⟩
  obtain ⟨p, -, hp, -⟩ := keysFor_spec c v
  exact ⟨p.1, p.2, hp, fun r k hrk => Prod.mk.inj (c.keyMap_read_inj (p := (r, k)) hrk hp)⟩

end Sys2Proof

/-!
PROOFS. The encoding (spec/30_encoding.md): the table against the encoder and the reserved rows, and the data formats of
R81 read back.
-/

namespace Sys2Proof

/-! ## The table (R89, R92) -/

/-- The canonical word of an operation selects it; so does the match value of a reserved row. -/
theorem decodeSel_encodeSel (i : Instr) : decodeSel (encodeSel i) = some i := by
  cases i with
  | dspLoad ii | dspEn ii => revert ii; decide
  | _ => rfl

theorem decode_cons_of_decodeSel {w : Sel} {i : Instr} (h : decodeSel w = some i) (rest : List (BitVec 8)) :
    decode (w :: rest) = .ok (i, rest) := by
  simp [decode, h]

/-- R92: the words that select a reserved row are those of the five reserved patterns. -/
theorem decodeSel_map_wellFormed (w : Sel) : (decodeSel w).map Instr.wellFormed = some (Sel.unreserved w) := by
  revert w; decide

/-- Settles O3: an encoding is one word, and `decodeSel_encodeSel` reads it back. -/
theorem decodeOfEncodeIsIdentity : Obligations.DecodeOfEncodeIsIdentity := fun i rest _ =>
  decode_cons_of_decodeSel (decodeSel_encodeSel i) rest

/-- Settles O1, by reading the fixed words. -/
theorem specSelectorsDecode : Obligations.SpecSelectorsDecode := by
  unfold Obligations.SpecSelectorsDecode
  decide

/-- Settles O2: the row is unique by `table_unambiguous`, and what it selects by `decodeSel_map_wellFormed`. -/
theorem everySelectorMatchesOneRow : Obligations.EverySelectorMatchesOneRow := by
  intro w
  obtain ⟨i, hi, hwf⟩ := Option.map_eq_some_iff.1 (decodeSel_map_wellFormed w)
  exact ⟨table_unambiguous w, i, hi, by rw [hwf]⟩

/-- Settles O42: each of the five meanings is `stuck`. -/
theorem reservedSelectorsHaveNoStep : Obligations.ReservedSelectorsHaveNoStep :=
  fun _ => ⟨rfl, rfl, rfl, rfl, rfl⟩

/-! ## The data formats (R81) -/

theorem Digit.toNat_code (d : Digit) : (Digit.code d).toNat = d.val := by
  revert d; decide

/-- R91: the four bits from bit `k` stand for the digit that is their value, if there is one. -/
theorem Digit.ofCode_extractLsb'_eq_some_iff (w : BitVec 16) (k : Nat) (d : Digit) :
    Digit.ofCode (w.extractLsb' k 4) = some d ↔ w.toNat / 2 ^ k % 16 = d.val := by
  have hval : (w.extractLsb' k 4).toNat = w.toNat / 2 ^ k % 16 := by
    rw [BitVec.extractLsb'_toNat, Nat.shiftRight_eq_div_pow]
  rw [Digit.ofCode, hval]
  split
  · rw [Option.some_inj, Fin.ext_iff]
  · have := d.isLt
    simp only [reduceCtorEq, false_iff]
    omega

theorem DigitBuffer.toNat_packed (d : DigitBuffer) :
    d.packed.toNat = 4096 * d.d0.val + 256 * d.d1.val + 16 * d.d2.val + d.d3.val := by
  have h1 := d.d1.isLt
  have h2 := d.d2.isLt
  have h3 := d.d3.isLt
  simp only [DigitBuffer.packed, BitVec.toNat_append, Digit.toNat_code]
  rw [← Nat.shiftLeft_add_eq_or_of_lt (i := 4) (by omega), ← Nat.shiftLeft_add_eq_or_of_lt (i := 4) (by omega),
    ← Nat.shiftLeft_add_eq_or_of_lt (i := 4) (by omega)]
  omega

/-- R64: a word reads as the DigitBuffer whose digits are its four fields, `D[0]` in bits 15:12. -/
theorem DigitBuffer.ofPacked_eq_some_iff {w : BitVec 16} {d : DigitBuffer} :
    DigitBuffer.ofPacked w = some d ↔
      w.toNat / 4096 % 16 = d.d0.val ∧ w.toNat / 256 % 16 = d.d1.val ∧
      w.toNat / 16 % 16 = d.d2.val ∧ w.toNat % 16 = d.d3.val := by
  simp only [DigitBuffer.ofPacked, Option.bind_eq_some_iff, Option.map_eq_some_iff,
    Digit.ofCode_extractLsb'_eq_some_iff, Nat.reducePow, pow_zero, Nat.div_one]
  constructor
  · rintro ⟨a, ha, b, hb, c, hc, e, he, rfl⟩
    exact ⟨ha, hb, hc, he⟩
  · rintro ⟨ha, hb, hc, he⟩
    exact ⟨_, ha, _, hb, _, hc, _, he, rfl⟩

/-- Reading a packed word back undoes packing, and packing undoes reading back. -/
theorem DigitBuffer.ofPacked_eq_some_iff_packed {w : BitVec 16} {d : DigitBuffer} :
    DigitBuffer.ofPacked w = some d ↔ d.packed = w := by
  rw [DigitBuffer.ofPacked_eq_some_iff, ← BitVec.toNat_inj, DigitBuffer.toNat_packed]
  have hw := w.isLt
  have h0 := d.d0.isLt
  have h1 := d.d1.isLt
  have h2 := d.d2.isLt
  have h3 := d.d3.isLt
  omega

/-- R91: a word stands for a DigitBuffer exactly when none of its four digits is a reserved code. -/
theorem DigitBuffer.isSome_ofPacked (w : BitVec 16) : (DigitBuffer.ofPacked w).isSome = true ↔
    w.toNat / 4096 < 10 ∧ w.toNat / 256 % 16 < 10 ∧ w.toNat / 16 % 16 < 10 ∧ w.toNat % 16 < 10 := by
  have hw := w.isLt
  simp only [Option.isSome_iff_exists, DigitBuffer.ofPacked_eq_some_iff]
  constructor
  · rintro ⟨d, hd0, hd1, hd2, hd3⟩
    omega
  · rintro ⟨h0, h1, h2, h3⟩
    exact ⟨⟨⟨_, h0⟩, ⟨_, h1⟩, ⟨_, h2⟩, ⟨_, h3⟩⟩, Nat.mod_eq_of_lt (by omega), rfl, rfl, rfl⟩

/-- Settles O4: `ofPacked` undoes `packed` and the reserved words are those with a reserved digit; the small formats are
checked code by code. -/
theorem dataFormatsReadBack : Obligations.DataFormatsReadBack := by
  refine ⟨fun d => ⟨DigitBuffer.ofPacked_eq_some_iff_packed.2 rfl, d.toNat_packed⟩,
    fun w d => DigitBuffer.ofPacked_eq_some_iff_packed.1, DigitBuffer.isSome_ofPacked, ?_, rfl, ?_, rfl, ?_, ?_⟩
  · intro m; cases m <;> rfl
  · intro k; cases k <;> rfl
  · decide
  · decide

end Sys2Proof

/-!
PROOFS. From events to operations (spec/60_exceptions.md section 3): an event of an enabled class runs the one operation
its selector selects, an event of any other class is refused, and a step plays one event.
-/

namespace Sys2Proof.Machine

variable {i : Instr} {c : EventClass} {s t : State}

/-! ## Where an operation runs, its event is enabled and selects it -/

theorem Performs.wellFormed (h : Performs s i t) : i.wellFormed = true := by
  cases h <;> rfl

theorem Performs.exists_eventClass (h : Performs s i t) : ∃ c, i.eventClass = some c := by
  cases h <;> exact ⟨_, rfl⟩

/-- R224: no operation runs where its class is not enabled. -/
theorem Performs.enabled_of_eventClass (h : Performs s i t) (hi : i.eventClass = some c) : enabled c s = true := by
  cases h with
  | cnt hsyn hdisp => cases hi; simp [hsyn, hdisp]
  | synNop hsyn | synSt hsyn | synLf hsyn | synLr hsyn | synLt hsyn => cases hi; exact hsyn
  | dspLoad hdisp | dspEn hdisp => cases hi; exact hdisp
  | _ => cases hi; rfl

/-- R89, R90: the selector formed for its class selects the operation that runs. -/
theorem Performs.decodeSel_formSel (h : Performs s i t) (hi : i.eventClass = some c) :
    decodeSel (formSel c s) = some i := by
  cases c with
  | cnt =>
    cases h with
    | cnt => exact decodeSel_formSel_cnt s
    | _ => simp [Instr.eventClass] at hi
  | ctl => exact h.decodeSel_formSel_ctl hi
  | syn => exact h.decodeSel_formSel_syn hi
  | key => exact h.decodeSel_formSel_key hi
  | dsp => exact h.decodeSel_formSel_dsp hi

theorem Performs.serve_eq (h : Performs s i t) (hi : i.eventClass = some c) : serve c s = .next t := by
  rw [serve_eq_exec (h.decodeSel_formSel hi), exec_of_performs h]

/-- Settles O6: `Performs` is `exec`, so the enabling and the selection are those of its constructors. -/
theorem operationRunsOnlyWhereSelected : Obligations.OperationRunsOnlyWhereSelected := by
  intro i s t hexec
  have h := performs_of_exec hexec
  obtain ⟨c, hi⟩ := h.exists_eventClass
  exact ⟨c, hi, h.enabled_of_eventClass hi, h.decodeSel_formSel hi⟩

/-! ## In every enabled class some operation runs -/

/-- R135 to R145: `mode`, `chunkKind` and the chunks to go leave one completion to every state. -/
theorem exists_performs_syn (hsyn : s.tfSyn = true) : ∃ i t, Performs s i t ∧ i.eventClass = some .syn := by
  cases hm : s.mode with
  | idle => exact ⟨_, _, .synNop hsyn hm, rfl⟩
  | short => exact ⟨_, _, .synSt hsyn hm, rfl⟩
  | long =>
    cases hc : s.chunkKind with
    | trim => exact ⟨_, _, .synLt hsyn hm hc, rfl⟩
    | full =>
      rcases Nat.eq_zero_or_pos s.remainingFullChunks with hr | hr
      · exact ⟨_, _, .synLr hsyn hm hc hr, rfl⟩
      · exact ⟨_, _, .synLf hsyn hm hc hr, rfl⟩

/-- R179: `KS`, `ActiveFlag` and what the scan finds leave one foreground step to every state. -/
theorem exists_performs_key (s : State) : ∃ i t, Performs s i t ∧ i.eventClass = some .key := by
  cases hk : s.ks with
  | debounce => exact ⟨_, _, .keyWait hk, rfl⟩
  | rows =>
    cases hA : s.activeFlag with
    | true => exact ⟨_, _, .keyIdle hA hk, rfl⟩
    | false =>
      cases hrow : rowFound s.pressed with
      | none => exact ⟨_, _, .keyRowMiss hA hk hrow, rfl⟩
      | some r => exact ⟨_, _, .keyRowHit r hA hk hrow, rfl⟩
  | cols =>
    cases hA : s.activeFlag with
    | true => exact ⟨_, _, .keyDrop hA hk, rfl⟩
    | false =>
      cases hcol : colFound s.pressed s.rowLatch with
      | none => exact ⟨_, _, .keyColMiss hA hk hcol, rfl⟩
      | some col =>
        cases hdig : digitFound s.cfg.keyMap s.pressed s.rowLatch with
        | none => exact ⟨_, _, .keyColUnused hA hk (by rw [hcol]; rfl) hdig, rfl⟩
        | some v => exact ⟨_, _, .keyColDigit v hA hk hdig, rfl⟩

theorem exists_performs_dsp (hdisp : s.tfDisp = true) : ∃ i t, Performs s i t ∧ i.eventClass = some .dsp := by
  cases hp : s.phase with
  | loadSegments => exact ⟨_, _, .dspLoad hdisp hp, rfl⟩
  | enableDigit => exact ⟨_, _, .dspEn hdisp hp, rfl⟩

theorem exists_performs (hc : enabled c s = true) : ∃ i t, Performs s i t ∧ i.eventClass = some c := by
  cases c with
  | cnt =>
    obtain ⟨hsyn, hdisp⟩ : s.tfSyn = false ∧ s.tfDisp = false := by simpa using hc
    exact ⟨_, _, .cnt hsyn hdisp, rfl⟩
  | ctl => exact exists_performs_ctl s
  | syn => exact exists_performs_syn hc
  | key => exact exists_performs_key s
  | dsp => exact exists_performs_dsp hc

theorem exists_serve_eq_next (hc : enabled c s = true) : ∃ t, serve c s = .next t := by
  obtain ⟨i, t, h, hi⟩ := exists_performs hc
  exact ⟨t, h.serve_eq hi⟩

/-- Settles O5: the operation that runs in the enabled class (`exists_performs`) is the one selected. -/
theorem enabledEventSelectsAnOperationThatRuns : Obligations.EnabledEventSelectsAnOperationThatRuns := by
  intro s c hc
  obtain ⟨i, t, h, hi⟩ := exists_performs hc
  exact ⟨i, t, h.decodeSel_formSel hi, h.wellFormed, hi, exec_of_performs h, h.serve_eq hi⟩

/-! ## An event that is not enabled is refused -/

/-- R88: the selector of an event selects an operation of the event's class, enabled or not. -/
theorem formSel_selects (c : EventClass) (s : State) :
    ∃ i, decodeSel (formSel c s) = some i ∧ i.eventClass = some c := by
  cases c with
  | cnt => exact ⟨_, decodeSel_formSel_cnt s, rfl⟩
  | ctl => exact ⟨_, decodeSel_formSel_ctl s, by split_ifs <;> rfl⟩
  | syn => exact ⟨_, decodeSel_formSel_syn s, by split <;> (try split_ifs) <;> rfl⟩
  | key => exact ⟨_, decodeSel_formSel_key s, by split <;> (try split_ifs) <;> rfl⟩
  | dsp => exact ⟨_, decodeSel_formSel_dsp s, by split <;> rfl⟩

theorem exec_of_not_enabled (hi : i.eventClass = some c) (hc : enabled c s = false) :
    exec i s = .refused .notEnabled := by
  cases i with
  | cnt | synNop | synSt | synLf | synLr | synLt | dspLoad | dspEn => cases hi; exact congrArg (perform · _ _) hc
  | actZ | actS | actL | deact | keyIdle | keyDrop | keyRowMiss | keyRowHit | keyColMiss | keyColUnused | keyColDigit
  | keyWait => cases hi; cases hc
  | reservedSyn | reservedKey | reservedEv5 | reservedEv6 | reservedEv7 => cases hi

theorem serve_of_not_enabled (hc : enabled c s = false) : serve c s = .refused .notEnabled := by
  obtain ⟨i, hsel, hi⟩ := formSel_selects c s
  rw [serve_eq_exec hsel, exec_of_not_enabled hi hc]

/-- Settles O7: `enabled` is the step relation of R224, class by class. -/
theorem eventRunsExactlyWhenEnabled : Obligations.EventRunsExactlyWhenEnabled := by
  intro s
  have hcnt : (s.tfSyn = false ∧ s.tfDisp = false) ↔ enabled .cnt s = true := by simp
  refine ⟨exists_serve_eq_next rfl, exists_serve_eq_next rfl, fun h => exists_serve_eq_next h,
    fun h => serve_of_not_enabled h, fun h => exists_serve_eq_next h, fun h => serve_of_not_enabled h,
    fun h => exists_serve_eq_next (hcnt.1 h), fun h => serve_of_not_enabled ?_⟩
  rwa [hcnt, Bool.not_eq_true] at h

/-! ## A step plays one event -/

theorem formSel_withOutside_pressed (c : EventClass) (tr : List TraceItem) (n : Nat) (s : State) :
    formSel c (withOutside s.pressed tr n s) = formSel c s := by
  cases c <;> rfl

theorem enabled_withOutside (c : EventClass) (m : KeyMatrix) (tr : List TraceItem) (n : Nat) (s : State) :
    enabled c (withOutside m tr n s) = enabled c s := by
  cases c <;> rfl

theorem step_of_trace_cons {item : TraceItem} {rest : List TraceItem} (h : s.trace = item :: rest) :
    step s = playItem item { s with trace := rest } := by
  simp [step, fetch, h]

/-- R224: with no trace the step is an event of a class the schedule chose, with the keys held then. -/
theorem step_of_trace_nil (h : s.trace = []) :
    ∃ c, enabled c s = true ∧
      step s = serve c (withOutside (Config.environment s.envCount).keys s.trace (s.envCount + 1) s) :=
  ⟨chosenClass (nextChoice s) s, enabled_chosenClass _ s, by simp [step, fetch, h, playItem, withOutside, nextChoice]⟩

/-- Settles O8: `formSel` reads neither the trace nor the count of choices, so taking the item off first does not
change what it selects. -/
theorem stepRunsTheDecodedOperation : Obligations.StepRunsTheDecodedOperation := by
  refine ⟨fun s w rest i htrace hdec => ?_, fun s c rest i htrace hdec => ?_, fun s m rest htrace => ?_,
    fun s htrace => ?_⟩
  · rw [step_of_trace_cons htrace, playItem, dispatch, decode_singleton.1 hdec]
  · rw [step_of_trace_cons htrace]
    exact serve_eq_exec ((congrArg decodeSel (formSel_withOutside_pressed c rest s.envCount s)).trans
      (decode_singleton.1 hdec))
  · rw [step_of_trace_cons htrace, playItem]
  · obtain ⟨c, hc, hstep⟩ := step_of_trace_nil htrace
    let u := withOutside (Config.environment s.envCount).keys s.trace s.envCount s
    obtain ⟨i, hsel, -⟩ := formSel_selects c u
    refine ⟨c, i, hc, decode_singleton.2 hsel, hstep.trans (serve_eq_exec ?_)⟩
    exact (congrArg decodeSel (formSel_withOutside_pressed c s.trace (s.envCount + 1) u)).trans hsel

/-- Settles O9: the class chosen is enabled whatever keys are down, so an operation of it runs, and no operation
writes the trace. -/
theorem freeRunningBlockNeverHalts : Obligations.FreeRunningBlockNeverHalts := by
  intro s htrace
  obtain ⟨c, hc, hstep⟩ := step_of_trace_nil htrace
  obtain ⟨i, t, h, hi⟩ := exists_performs ((enabled_withOutside c _ _ _ s).trans hc)
  obtain ⟨-, -, htr, -⟩ := h.outside_kept
  exact ⟨t, hstep.trans (h.serve_eq hi), htr.trans htrace⟩

end Sys2Proof.Machine

/-!
PROOFS. The plan of an activation (spec/40_decomposer.md): what `ACT.S` and `ACT.L` write adds up to the half-period,
fits its fields, and depends on the digits and the parameters alone.
-/

namespace Sys2Proof

/-! ## Bounds on the plan (R121) -/

/-- R121: `f` = 1 has the longest half-period. -/
theorem halfPeriod_le_hMax (c : Config) {f : Nat} (hf : f ≠ 0) : halfPeriod c.toParams f ≤ c.hMax := by
  obtain ⟨hnum, -⟩ := c.cycle_pos
  rw [halfPeriod_eq_sub]
  exact Nat.sub_le_sub_right
    (Nat.div_le_div_left (Nat.le_mul_of_pos_left _ (Nat.pos_of_ne_zero hf)) hnum) _

theorem chainOf_le_nMax (c : Config) {f : Nat} (hf : f ≠ 0) : chainOf c.toParams (halfPeriod c.toParams f) ≤ c.nMax :=
  Nat.sub_le_sub_right (Nat.div_le_div_right (halfPeriod_le_hMax c hf)) 1

theorem Config.timerRange_pos (c : Config) : 0 < c.timerRange := two_pos.trans_le c.two_le_timerRange

theorem Plan.long_trim_pos (c : Config) {h : Nat} (hlong : c.timerRange < h) : 1 ≤ (Plan.long c.toParams h).trim := by
  rw [Plan.long_trim_eq_mod c.timerRange_pos hlong]
  have := Nat.mod_lt h c.timerRange_pos
  omega

theorem Plan.long_trim_le (p : Params) (h : Nat) : (Plan.long p h).trim ≤ p.timerRange := Nat.sub_le _ _

/-! ## The half-period out of the plan (R119) -/

/-- R119 in LONG mode: quotient and remainder by `TIMER_RANGE`. -/
theorem Plan.long_reconstructs (c : Config) {h : Nat} (hlong : c.timerRange < h) :
    h = ((Plan.long c.toParams h).chain + 1) * c.timerRange + (c.timerRange - (Plan.long c.toParams h).trim) := by
  have hmod := Nat.mod_lt h c.timerRange_pos
  rw [Plan.long_trim_eq_mod c.timerRange_pos hlong, Plan.long_chain, chainOf_add_one c.timerRange_pos hlong,
    Nat.sub_sub_self hmod.le, Nat.div_add_mod']

/-- R118 in LONG mode: no remainder, which above `TIMER_RANGE` means a multiple of at least two. -/
theorem Plan.long_trim_eq_timerRange_iff (c : Config) {h : Nat} (hlong : c.timerRange < h) :
    (Plan.long c.toParams h).trim = c.timerRange ↔ h % c.timerRange = 0 := by
  have hmod := Nat.mod_lt h c.timerRange_pos
  rw [Plan.long_trim_eq_mod c.timerRange_pos hlong]
  omega

theorem mod_eq_zero_iff_exists_two_le {m h : Nat} (hlong : m < h) : h % m = 0 ↔ ∃ k, 2 ≤ k ∧ h = k * m := by
  constructor
  · intro hmod
    obtain ⟨k, rfl⟩ := Nat.dvd_of_mod_eq_zero hmod
    refine ⟨k, ?_, Nat.mul_comm m k⟩
    by_contra hk
    have hle : m * k ≤ m * 1 := Nat.mul_le_mul_left m (by omega)
    omega
  · rintro ⟨k, -, rfl⟩
    exact Nat.mul_mod_left k m

namespace Machine

variable {i : Instr} {c : EventClass} {s t : State}

/-- Settles O21: in SHORT mode the TRIM chunk is the half-period, in LONG mode `Plan.long_reconstructs` adds it up. -/
theorem planReconstructsTheHalfPeriod : Obligations.PlanReconstructsTheHalfPeriod := by
  rintro i s t (rfl | rfl) hexec
  · cases performs_of_exec hexec with
    | actS _ _ hh =>
      rw [startSyn_configureSyn_activate]
      exact (Nat.sub_sub_self hh).symm.trans (Nat.zero_add _).symm
  · cases performs_of_exec hexec with
    | actL _ _ hh =>
      rw [startSyn_configureSyn_activate]
      exact Plan.long_reconstructs s.cfg hh

/-- Settles O22: in SHORT mode `h` = 0 is also what a clamped delay leaves, so both notes agree. -/
theorem degeneratePlanArisesExactly : Obligations.DegeneratePlanArisesExactly := by
  intro s t k
  refine ⟨fun hexec => ?_, fun hexec => ?_⟩
  · cases performs_of_exec hexec with
    | actS _ _ hh =>
      have htrim : s.cfg.timerRange - halfNow s = s.cfg.timerRange ↔ halfNow s = 0 := by
        have := s.cfg.timerRange_pos
        omega
      have hnote : Condition.zeroLengthChunk ∈ noted .actS k s ↔ halfNow s = 0 := by
        simp [noted, noteIf]
      rw [startSyn_configureSyn_activate]
      exact ⟨htrim, htrim.trans hnote.symm⟩
  · cases performs_of_exec hexec with
    | actL _ _ hh =>
      have htrim := Plan.long_trim_eq_timerRange_iff s.cfg hh
      have hnote : Condition.zeroLengthChunk ∈ noted .actL k s ↔ halfNow s % s.cfg.timerRange = 0 := by
        simp [noted_actL]
      rw [startSyn_configureSyn_activate]
      exact ⟨htrim.trans (mod_eq_zero_iff_exists_two_le hh), htrim.trans hnote.symm⟩

/-- Settles O23: R121 bounds the chain by `N_MAX`, and R269 makes room for `N_MAX`. -/
theorem chainCountFits : Obligations.ChainCountFits := by
  intro s t hexec
  cases performs_of_exec hexec with
  | actL _ hf _ =>
    have hle := chainOf_le_nMax s.cfg hf
    exact ⟨hle, hle.trans_lt s.cfg.nMax_lt⟩

/-- An event that runs performed the operation its selector selects. -/
theorem performs_of_serve (h : serve c s = .next t) :
    ∃ i, decodeSel (formSel c s) = some i ∧ i.eventClass = some c ∧ Performs s i t := by
  obtain ⟨i, hsel, hi⟩ := formSel_selects c s
  rw [serve_eq_exec hsel] at h
  exact ⟨i, hsel, hi, performs_of_exec h⟩

/-- Settles O24: equal digits and parameters give the same `f` and `h`, so the same activation is selected in both
states and writes the same plan. -/
theorem planDependsOnDigitsAlone : Obligations.PlanDependsOnDigitsAlone := by
  intro s₁ s₂ t₁ t₂ hA₁ hA₂ hd hcfg hserve₁ hserve₂
  have hf : freqNow s₁ = freqNow s₂ := by rw [freqNow, freqNow, hd]
  have hh : halfNow s₁ = halfNow s₂ := by rw [halfNow, halfNow, hf, hcfg]
  obtain ⟨i, hsel₁, -, h₁⟩ := performs_of_serve hserve₁
  obtain ⟨j, hsel₂, hj, h₂⟩ := performs_of_serve hserve₂
  obtain rfl : i = j := by
    rw [decodeSel_formSel_ctl_of_inactive hA₁, hf, hh, hcfg, ← decodeSel_formSel_ctl_of_inactive hA₂, hsel₂] at hsel₁
    exact (Option.some.inj hsel₁).symm
  cases h₁ with
  | actZ =>
    cases h₂
    exact ⟨rfl, rfl, rfl, rfl, rfl, fun hm => absurd rfl hm⟩
  | actS | actL =>
    cases h₂
    simp [startSyn_configureSyn_activate, hh, hcfg]
  | deact hA => exact absurd (hA₁.symm.trans hA) Bool.false_ne_true
  | _ => simp [Instr.eventClass] at hj

end Machine
end Sys2Proof

/-!
PROOFS. The invariants of R33 and the ranges of the values: one lemma per invariant, over the operations. In each proof
the cases named are the operations that write what the invariant speaks of; every other operation leaves it as it was.
-/

namespace Sys2Proof

/-- R41: a channel that completes wraps to 0. -/
theorem Channel.cnt_count_of_completes {m : Nat} {c : Channel} (h : c.completes m = true) : (c.count m).cnt = 0 := by
  rcases c.count_cases m with ⟨-, -, hcompl⟩ | ⟨-, -, hcount, -⟩ | ⟨-, -, -, hcompl⟩
  · exact absurd (hcompl.symm.trans h) Bool.false_ne_true
  · rw [hcount]
  · exact absurd (hcompl.symm.trans h) Bool.false_ne_true

namespace Machine

variable {i : Instr} {s t : State}

/-! ## What a step keeps -/

/-- What the operations keep, and what does not speak of the key lines, the trace and the count of choices, every step
keeps. -/
theorem step_keeps {P : State → Prop} (houtside : ∀ m tr n s, P s → P (withOutside m tr n s))
    (hop : ∀ i s t, P s → Performs s i t → P t) {s s' : State} (hs : P s) (h : step s = .next s') : P s' := by
  obtain ⟨m, tr, n, rfl | ⟨i, hexec⟩⟩ := step_cases h
  · exact houtside m tr n s hs
  · exact hop i _ s' (houtside m tr n s hs) (performs_of_exec hexec)

/-! ## One `CNT` (R130 to R133) -/

/-- R131: `T_SYN` counts, and completing is what sets `tf_syn`. -/
theorem cntEffect_syn (hsyn : s.tfSyn = false) :
    (cntEffect s).tSyn = s.tSyn.count s.cfg.timerRange ∧
      (cntEffect s).tfSyn = s.tSyn.completes s.cfg.timerRange := by
  simp [cntEffect, hsyn]

/-- R131 with `T_SYN` running: it completes at its last count and stands at 0 then, and counts up before. -/
theorem cntEffect_syn_running (hsyn : s.tfSyn = false) (hrun : s.tSyn.run = true) :
    (s.tSyn.cnt = s.cfg.timerRange - 1 ∧ (cntEffect s).tSyn = ⟨0, true⟩ ∧ (cntEffect s).tfSyn = true) ∨
    (s.tSyn.cnt ≠ s.cfg.timerRange - 1 ∧ (cntEffect s).tSyn = ⟨s.tSyn.cnt + 1, true⟩ ∧
      (cntEffect s).tfSyn = false) := by
  obtain ⟨hcount, hflag⟩ := cntEffect_syn hsyn
  rw [hcount, hflag]
  rcases s.tSyn.count_cases s.cfg.timerRange with ⟨hstop, -⟩ | ⟨-, hlast, hc, hcompl⟩ | ⟨-, hlast, hc, hcompl⟩
  · exact absurd (hstop.symm.trans hrun) Bool.false_ne_true
  · exact .inl ⟨hlast, by rw [hc, hrun], hcompl⟩
  · exact .inr ⟨hlast, by rw [hc, hrun], hcompl⟩

/-- R131 with `T_SYN` stopped: nothing of it changes. -/
theorem cntEffect_syn_stopped (hsyn : s.tfSyn = false) (hrun : s.tSyn.run = false) :
    (cntEffect s).tSyn = s.tSyn ∧ (cntEffect s).tfSyn = false := by
  obtain ⟨hcount, hflag⟩ := cntEffect_syn hsyn
  exact ⟨hcount.trans (Channel.count_of_stopped hrun), hflag.trans (Channel.completes_of_stopped hrun)⟩

/-- R133: `T_DISP` wraps and sets `tf_disp`, or counts up. -/
theorem cntEffect_disp (s : State) :
    (s.tDispCnt = s.cfg.dispPeriod - 1 ∧ (cntEffect s).tDispCnt = 0 ∧ (cntEffect s).tfDisp = true) ∨
    (s.tDispCnt ≠ s.cfg.dispPeriod - 1 ∧ (cntEffect s).tDispCnt = s.tDispCnt + 1 ∧
      (cntEffect s).tfDisp = s.tfDisp) := by
  by_cases hlast : s.tDispCnt = s.cfg.dispPeriod - 1
  · exact .inl ⟨hlast, by simp [cntEffect, displayTicks, hlast]⟩
  · exact .inr ⟨hlast, by simp [cntEffect, displayTicks, hlast]⟩

/-- R132: stopping `T_DEB` at the end of a wait keeps its count. -/
theorem cntEffect_tDeb_cnt (s : State) : (cntEffect s).tDeb.cnt = (s.tDeb.count s.cfg.timerRange).cnt := by
  simp only [cntEffect, countDisp_tDeb, countDeb_tDeb]
  split <;> rfl

/-- R132 during a wait, by what I7 says of it: the span goes on; or it ends and spans are left; or the last one ends,
and the wait with it. -/
theorem cntEffect_wait (hI7 : DebounceRuns s) (hk : s.ks = .debounce) :
    (s.tDeb.cnt ≠ s.cfg.timerRange - 1 ∧ (cntEffect s).ks = .debounce ∧ (cntEffect s).debLeft = s.debLeft ∧
      (cntEffect s).tDeb = ⟨s.tDeb.cnt + 1, true⟩) ∨
    (s.tDeb.cnt = s.cfg.timerRange - 1 ∧ (cntEffect s).ks = .debounce ∧
      s.debLeft.toNat = (cntEffect s).debLeft.toNat + 1 ∧ 1 ≤ (cntEffect s).debLeft.toNat ∧
      (cntEffect s).tDeb = ⟨0, true⟩) ∨
    (s.tDeb.cnt = s.cfg.timerRange - 1 ∧ (cntEffect s).ks = .rows ∧ s.debLeft.toNat = 1 ∧ (cntEffect s).debLeft = 0 ∧
      (cntEffect s).tDeb = ⟨0, false⟩) := by
  have hrun := hI7.1.1 hk
  have hpos := hI7.2.1 hrun
  have hdeb : (cntEffect s).ks = (countDeb s).ks ∧ (cntEffect s).debLeft = (countDeb s).debLeft ∧
    (cntEffect s).tDeb = (countDeb s).tDeb := ⟨rfl, rfl, rfl⟩
  obtain ⟨hks, hleft, hch⟩ := hdeb
  rw [hks, hleft, hch, countDeb_eq]
  by_cases hlast : s.tDeb.cnt = s.cfg.timerRange - 1
  · by_cases hone : s.debLeft = 1
    · exact .inr (.inr (by simp [hrun, hlast, hone]))
    · have hdec : s.debLeft - 1 ≠ 0#3 ∧ s.debLeft.toNat = (s.debLeft - 1).toNat + 1 ∧ 1 ≤ (s.debLeft - 1).toNat := by
        bv_omega
      generalize s.debLeft - 1 = left at hdec ⊢
      obtain ⟨hne, hsucc, hge⟩ := hdec
      exact .inr (.inl (by simp [hrun, hlast, hk, hne, hsucc, hge]))
  · exact .inl (by simp [hrun, hlast, hk])

/-! ## The invariants of R33 -/

/-- I7 outside the wait asks only that `KS` stays outside it. -/
theorem DebounceRuns.of_scan {u : State} (hI7 : DebounceRuns s) (hk : s.ks ≠ .debounce) (hu : u.ks ≠ .debounce)
    (hch : u.tDeb = s.tDeb) (hleft : u.debLeft = s.debLeft) : DebounceRuns u := by
  have hstop := hI7.stopped hk
  rw [DebounceRuns, hch, hleft]
  exact ⟨by simp [hu, hstop], hI7.2⟩

theorem atMostOneBit_enableBit (i : Position) : atMostOneBit (enableBit i) := by
  revert i; decide

namespace Performs

/-- I2: only an activation leaves the idle plan, and a toggle needs a plan that is not idle. -/
theorem keeps_inactiveIsIdle (h : Performs s i t) (hI2 : InactiveIsIdle s) : InactiveIsIdle t := by
  cases h with
  | actZ | actS | actL => exact nofun
  | deact => exact fun _ => ⟨rfl, rfl⟩
  | synSt _ hm | synLt _ hm =>
    intro hA
    obtain ⟨hidle, -⟩ := hI2 hA
    exact absurd (hidle.symm.trans hm) (by decide)
  | _ => exact hI2

/-- I3: the two lines are written together. -/
theorem keeps_indicatorFollows (h : Performs s i t) (hI3 : IndicatorFollows s) : IndicatorFollows t := by
  cases h with
  | synSt | synLt => exact congrArg (!·) hI3
  | deact => exact rfl
  | _ => exact hI3

/-- I4: `T_SYN` is started with a plan that is not idle and stopped with the idle one; only a running `T_SYN`
completes. I2 says that an activation starts from the idle plan. -/
theorem keeps_idleIsQuiet (h : Performs s i t) (hI2 : InactiveIsIdle s) (hI4 : IdleIsQuiet s) : IdleIsQuiet t := by
  obtain ⟨hrun, hquiet⟩ := hI4
  cases h with
  | cnt hsyn =>
    refine ⟨hrun.trans (by rw [(cntEffect_syn hsyn).1, Channel.count_run]), fun hm => ?_⟩
    obtain ⟨-, hrest⟩ := hquiet hm
    exact ⟨(cntEffect_syn_stopped hsyn (hrun.1 hm)).2, hrest⟩
  | actZ hA =>
    obtain ⟨hm, hout⟩ := hI2 hA
    obtain ⟨hsyn, -⟩ := hquiet hm
    exact ⟨⟨fun _ => hrun.1 hm, fun _ => rfl⟩, fun _ => ⟨hsyn, hout, rfl, rfl, rfl, rfl⟩⟩
  | actS | actL => exact ⟨⟨nofun, nofun⟩, nofun⟩
  | deact => exact ⟨⟨fun _ => rfl, fun _ => rfl⟩, fun _ => ⟨rfl, rfl, rfl, rfl, rfl, rfl⟩⟩
  | synNop => exact ⟨hrun, fun hm => ⟨rfl, (hquiet hm).2⟩⟩
  | synSt _ hm | synLf _ hm | synLr _ hm | synLt _ hm =>
    exact ⟨hrun, fun hidle => absurd (hidle.symm.trans hm) (by decide)⟩
  | _ => exact ⟨hrun, hquiet⟩

/-- I5: SHORT mode has no chunks, and no operation of it writes any. -/
theorem keeps_shortIsTrim (h : Performs s i t) (hI5 : ShortIsTrim s) : ShortIsTrim t := by
  cases h with
  | actZ | actL | deact => exact nofun
  | actS => exact fun _ => ⟨rfl, rfl, rfl⟩
  | synLf _ hm | synLr _ hm | synLt _ hm => exact fun hshort => absurd (hshort.symm.trans hm) (by decide)
  | _ => exact hI5

/-- I6: `SYN.LF` counts the chunks down from `chainCount`, and `SYN.LR` finds none left. -/
theorem keeps_longIsChained (h : Performs s i t) (hI6 : LongIsChained s) : LongIsChained t := by
  obtain ⟨hlong, htrim⟩ := hI6
  cases h with
  | actZ | actS | deact => exact ⟨nofun, fun _ => rfl⟩
  | actL _ _ hh => exact ⟨fun _ => ⟨le_rfl, Plan.long_trim_pos s.cfg hh⟩, nofun⟩
  | synLf _ hm hc =>
    obtain ⟨hle, hpos⟩ := hlong hm
    exact ⟨fun _ => ⟨(Nat.sub_le _ 1).trans hle, hpos⟩, fun hc' => absurd (hc'.symm.trans hc) (by decide)⟩
  | synLr _ hm _ hr => exact ⟨hlong, fun _ => hr⟩
  | synLt _ hm =>
    obtain ⟨-, hpos⟩ := hlong hm
    exact ⟨fun _ => ⟨le_rfl, hpos⟩, nofun⟩
  | _ => exact ⟨hlong, htrim⟩

/-- I7: `KEY.COL.DIGIT` starts the wait and `CNT` ends it; the other writers of `KS` move between the phases of a
scan. -/
theorem keeps_debounceRuns (h : Performs s i t) (hI7 : DebounceRuns s) : DebounceRuns t := by
  cases h with
  | cnt =>
    by_cases hk : s.ks = .debounce
    · rcases cntEffect_wait hI7 hk with ⟨-, hks, hleft, hch⟩ | ⟨-, hks, -, hleft, hch⟩ | ⟨-, hks, -, hleft, hch⟩
      · have hpos := hI7.2.1 (hI7.1.1 hk)
        rw [DebounceRuns, hks, hch, hleft]
        simpa using hpos
      · rw [DebounceRuns, hks, hch]
        simpa using hleft
      · rw [DebounceRuns, hks, hch, hleft]
        simp
    · obtain ⟨hks, hleft, hch⟩ := cntEffect_of_tDeb_stopped (hI7.stopped hk)
      exact hI7.of_scan hk (by rwa [hks]) hch hleft
  | keyDrop _ hk | keyRowHit _ _ hk | keyColMiss _ hk | keyColUnused _ hk =>
    exact hI7.of_scan (by rw [hk]; decide) nofun rfl rfl
  | keyColDigit => exact ⟨⟨fun _ => rfl, fun _ => rfl⟩, ⟨fun _ => Nat.le_of_ble_eq_true rfl, fun _ => rfl⟩⟩
  | _ => exact hI7

/-- I8: `DSP.EN` finds all digits off, so the bit it sets is the only one. -/
theorem keeps_oneDigitLit (h : Performs s i t) (hI8 : OneDigitLit s) : OneDigitLit t := by
  obtain ⟨hone, hdark⟩ := hI8
  cases h with
  | dspLoad => exact ⟨.inl rfl, fun _ => rfl⟩
  | dspEn _ hp =>
    have hlit : s.digitEn ||| enableBit s.activeDigitIndex = enableBit s.activeDigitIndex := by
      rw [hdark hp]; exact BitVec.zero_or
    exact ⟨(congrArg atMostOneBit hlit).mpr (atMostOneBit_enableBit _), nofun⟩
  | _ => exact ⟨hone, hdark⟩

/-- I9: a configure stores a count in range (R38), and a count never passes its wrap (R41). -/
theorem keeps_countersInRange (h : Performs s i t) (hI9 : CountersInRange s) : CountersInRange t := by
  obtain ⟨hsynlt, hdeblt, hdisplt⟩ := hI9
  have hreload (r : Nat) : reloadCount s.cfg.toParams r < s.cfg.timerRange := (reloadCount_spec s.cfg r).1
  cases h with
  | cnt hsyn =>
    have hsyn' : (cntEffect s).tSyn = s.tSyn.count s.cfg.timerRange := (cntEffect_syn hsyn).1
    refine ⟨hsyn' ▸ Channel.count_lt hsynlt, (cntEffect_tDeb_cnt s).trans_lt (Channel.count_lt hdeblt), ?_⟩
    obtain ⟨-, hcnt, -⟩ | ⟨hlast, hcnt, -⟩ := cntEffect_disp s
    · exact hcnt ▸ s.cfg.dispPeriod_pos
    · show (cntEffect s).tDispCnt < s.cfg.dispPeriod
      omega
  | actS | actL | synSt | synLr | synLt => exact ⟨hreload _, hdeblt, hdisplt⟩
  | keyColDigit => exact ⟨hsynlt, hreload _, hdisplt⟩
  | _ => exact ⟨hsynlt, hdeblt, hdisplt⟩

theorem keeps_inv (h : Performs s i t) (hInv : Inv s) : Inv t := by
  obtain ⟨hI2, hI3, hI4, hI5, hI6, hI7, hI8, hI9⟩ := hInv
  exact ⟨h.keeps_inactiveIsIdle hI2, h.keeps_indicatorFollows hI3, h.keeps_idleIsQuiet hI2 hI4,
    h.keeps_shortIsTrim hI5, h.keeps_longIsChained hI6, h.keeps_debounceRuns hI7, h.keeps_oneDigitLit hI8,
    h.keeps_countersInRange hI9⟩

end Performs

/-- Settles O48: every operation keeps each of the invariants. -/
theorem stepKeepsTheInvariants : Obligations.StepKeepsTheInvariants := fun _ _ =>
  step_keeps (P := Inv) (fun _ _ _ _ hInv => hInv) (fun _ _ _ hInv h => h.keeps_inv hInv)

/-! ## The ranges, and the pending flags -/

namespace Performs

/-- R23, R25, R30; I7 keeps `debLeft` from wrapping below 0. -/
theorem keeps_valuesFit (h : Performs s i t) (hI7 : DebounceRuns s) (hfit : ValuesFit s) : ValuesFit t := by
  obtain ⟨htrim, hchain, hrem, hleft⟩ := hfit
  have hzero : 0 < 2 ^ s.cfg.chainBits := Nat.two_pow_pos _
  cases h with
  | cnt =>
    refine ⟨htrim, hchain, hrem, ?_⟩
    by_cases hk : s.ks = .debounce
    · rcases cntEffect_wait hI7 hk with ⟨-, -, hl, -⟩ | ⟨-, -, hl, -, -⟩ | ⟨-, -, -, hl, -⟩
      · rwa [hl]
      · omega
      · rw [hl]; decide
    · rwa [(cntEffect_of_tDeb_stopped (hI7.stopped hk)).2.1]
  | actZ | deact => exact ⟨Nat.zero_le _, hzero, hzero, hleft⟩
  | actS => exact ⟨Nat.sub_le _ _, hzero, hzero, hleft⟩
  | actL _ hf =>
    have hlt := (chainOf_le_nMax s.cfg hf).trans_lt s.cfg.nMax_lt
    exact ⟨Plan.long_trim_le _ _, hlt, hlt, hleft⟩
  | synLf => exact ⟨htrim, hchain, (Nat.sub_le _ _).trans_lt hrem, hleft⟩
  | synLt => exact ⟨htrim, hchain, hchain, hleft⟩
  | keyColDigit => exact ⟨htrim, hchain, hrem, Nat.le_of_ble_eq_true rfl⟩
  | _ => exact ⟨htrim, hchain, hrem, hleft⟩

/-- R225: only the wrap of a counter sets its flag, and every configure of `T_SYN` meets a clear `tf_syn`: a completion
clears it first, and an activation starts from the idle plan (I2, I4). -/
theorem keeps_pendingAtZero (h : Performs s i t) (hI2 : InactiveIsIdle s) (hI4 : IdleIsQuiet s)
    (hpend : PendingAtZero s) : PendingAtZero t := by
  obtain ⟨hsynz, hdispz⟩ := hpend
  cases h with
  | cnt hsyn hdisp =>
    refine ⟨fun hflag => ?_, fun hflag => ?_⟩
    · obtain ⟨hcount, hcompl⟩ := cntEffect_syn hsyn
      rw [hcount, Channel.cnt_count_of_completes (hcompl.symm.trans hflag)]
    · obtain ⟨-, hcnt, -⟩ | ⟨-, -, hkept⟩ := cntEffect_disp s
      · exact hcnt
      · exact absurd (hdisp.symm.trans (hkept.symm.trans hflag)) Bool.false_ne_true
  | actS hA | actL hA =>
    obtain ⟨hsyn, -⟩ := hI4.2 (hI2 hA).1
    exact ⟨fun h => absurd (hsyn.symm.trans h) Bool.false_ne_true, hdispz⟩
  | deact | synNop | synSt | synLf | synLr | synLt => exact ⟨nofun, hdispz⟩
  | dspLoad | dspEn => exact ⟨hsynz, nofun⟩
  | _ => exact ⟨hsynz, hdispz⟩

theorem keeps_sound (h : Performs s i t) (hs : Sound s) : Sound t := by
  obtain ⟨hInv, hfit, hpend⟩ := hs
  obtain ⟨hI2, -, hI4, -, -, hI7, -, -⟩ := id hInv
  exact ⟨h.keeps_inv hInv, h.keeps_valuesFit hI7 hfit, h.keeps_pendingAtZero hI2 hI4 hpend⟩

end Performs

/-- Settles O49: with the invariants, every operation keeps the ranges and leaves a pending flag's counter at 0. -/
theorem stepKeepsTheRanges : Obligations.StepKeepsTheRanges := fun _ _ =>
  step_keeps (P := Sound) (fun _ _ _ _ hs => hs) (fun _ _ _ hs h => h.keeps_sound hs)

/-! ## Reset (R260) -/

theorem sound_resetWith (c : Config) : Sound (State.resetWith c) := by
  have hInv : Inv (State.resetWith c) :=
    ⟨fun _ => ⟨rfl, rfl⟩, rfl, ⟨⟨fun _ => rfl, fun _ => rfl⟩, fun _ => ⟨rfl, rfl, rfl, rfl, rfl, rfl⟩⟩, nofun,
      ⟨nofun, nofun⟩, ⟨⟨nofun, nofun⟩, ⟨nofun, nofun⟩⟩, ⟨.inl rfl, nofun⟩,
      ⟨c.timerRange_pos, c.timerRange_pos, c.dispPeriod_pos⟩⟩
  have hbits : 0 < 2 ^ c.chainBits := Nat.two_pow_pos _
  exact ⟨hInv, ⟨Nat.zero_le _, hbits, hbits, Nat.zero_le _⟩, nofun, nofun⟩

/-- Settles O47: the reset values are all 0, idle or low, and R269 gives each range a 0. -/
theorem resetSatisfiesTheInvariants : Obligations.ResetSatisfiesTheInvariants :=
  ⟨(sound_resetWith _).1, sound_resetWith _, sound_resetWith⟩

end Machine
end Sys2Proof

/-!
PROOFS. The toggle clock (spec/41_toggle_generator.md section 3): `cyclesToToggle` falls by one at each `CNT`, no other
operation moves it, and the completion that finds it at 0 toggles the output and starts it again at the realised
half-period. While the engine is idle the output stays low.
-/

namespace Sys2Proof.Machine

variable {i : Instr} {s t : State}

/-! ## The clock in two parts: the chunk being counted, and what comes after it -/

/-- The cycles from the end of the chunk being counted to the next toggle: the rest of the plan in a FULL chunk of LONG
mode (R141), none otherwise. -/
def cyclesAfterChunk (s : State) : Nat :=
  if s.mode = .long ∧ s.chunkKind = .full then s.remainingFullChunks * s.cfg.timerRange + trimChunkCycles s else 0

theorem cyclesToToggle_of_pending (h : s.tfSyn = true) : cyclesToToggle s = cyclesAfterChunk s := by
  simp [cyclesToToggle, cyclesAfterChunk, h]

theorem cyclesToToggle_of_counting (h : s.tfSyn = false) :
    cyclesToToggle s = s.cfg.timerRange - s.tSyn.cnt + cyclesAfterChunk s := by
  simp [cyclesToToggle, cyclesAfterChunk, h]

theorem cyclesAfterChunk_of_full (hm : s.mode = .long) (hc : s.chunkKind = .full) :
    cyclesAfterChunk s = s.remainingFullChunks * s.cfg.timerRange + trimChunkCycles s := if_pos ⟨hm, hc⟩

theorem cyclesAfterChunk_of_trim (hc : s.chunkKind = .trim) : cyclesAfterChunk s = 0 :=
  if_neg fun ⟨_, hfull⟩ => by simp [hc] at hfull

theorem cyclesAfterChunk_of_short (hm : s.mode = .short) : cyclesAfterChunk s = 0 :=
  if_neg fun ⟨hlong, _⟩ => by simp [hm] at hlong

theorem realisedHalfPeriod_of_short (hm : s.mode = .short) : realisedHalfPeriod s = trimChunkCycles s := by
  simp [realisedHalfPeriod, hm]

theorem realisedHalfPeriod_of_long (hm : s.mode = .long) :
    realisedHalfPeriod s = (s.chainCount + 1) * s.cfg.timerRange + trimChunkCycles s := by
  simp [realisedHalfPeriod, hm]

/-- R36, R38: a chunk that starts from the TRIM value, with nothing after it, is the TRIM chunk, degenerate or not. -/
theorem cyclesToToggle_of_trim_loaded (h : s.tfSyn = false) (hafter : cyclesAfterChunk s = 0)
    (hcnt : s.tSyn.cnt = reloadCount s.cfg.toParams s.trimReloadValue) : cyclesToToggle s = trimChunkCycles s := by
  rw [cyclesToToggle_of_counting h, hafter, hcnt]
  exact (reloadCount_spec _ _).2

/-- R141: a FULL chunk that starts from 0 is one more than those still to come. -/
theorem cyclesToToggle_of_full_started (h : s.tfSyn = false) (hm : s.mode = .long) (hc : s.chunkKind = .full)
    (hcnt : s.tSyn.cnt = 0) :
    cyclesToToggle s = (s.remainingFullChunks + 1) * s.cfg.timerRange + trimChunkCycles s := by
  rw [cyclesToToggle_of_counting h, cyclesAfterChunk_of_full hm hc, hcnt, Nat.sub_zero]
  ring

/-- Nothing pending, I9: the chunk being counted has at least its last cycle to go. -/
theorem cyclesToToggle_pos (hI9 : CountersInRange s) (h : s.tfSyn = false) : 0 < cyclesToToggle s := by
  obtain ⟨hlt, -, -⟩ := hI9
  rw [cyclesToToggle_of_counting h]
  omega

/-! ## The clock under one operation -/

namespace Performs

/-- R147 for one operation: a cycle passes; or nothing happens to the output; or the clock was out and the output
toggles. -/
theorem toggle_clock (h : Performs s i t) (hs : Sound s) (hm : s.mode ≠ .idle) (hm' : t.mode ≠ .idle) :
    realisedHalfPeriod t = realisedHalfPeriod s ∧
    (t.t = s.t + 1 ∧ t.out = s.out ∧ cyclesToToggle t + 1 = cyclesToToggle s ∨
     t.t = s.t ∧ t.out = s.out ∧ cyclesToToggle t = cyclesToToggle s ∨
     t.t = s.t ∧ t.out = !s.out ∧ cyclesToToggle s = 0 ∧ cyclesToToggle t = realisedHalfPeriod s) := by
  obtain ⟨⟨hI2, -, ⟨hstop, -⟩, -, -, -, -, hlt, -, -⟩, -, ⟨hpend, -⟩⟩ := hs
  cases h with
  | cnt hsyn =>
    refine ⟨rfl, .inl ⟨rfl, rfl, ?_⟩⟩
    have hrun : s.tSyn.run = true := by simpa [hm] using hstop
    have hafter : cyclesAfterChunk (cntEffect s) = cyclesAfterChunk s := rfl
    have hcfg : (cntEffect s).cfg = s.cfg := rfl
    rcases cntEffect_syn_running hsyn hrun with ⟨hlast, -, hflag⟩ | ⟨hlast, hch, hflag⟩
    · rw [cyclesToToggle_of_counting hsyn, cyclesToToggle_of_pending hflag, hafter]
      omega
    · have hcnt : (cntEffect s).tSyn.cnt = s.tSyn.cnt + 1 := congrArg Channel.cnt hch
      rw [cyclesToToggle_of_counting hsyn, cyclesToToggle_of_counting hflag, hafter, hcnt, hcfg]
      omega
  | actZ hA | actS hA | actL hA => exact absurd (hI2 hA).1 hm
  | deact => exact absurd rfl hm'
  | synNop _ hidle => exact absurd hidle hm
  | synSt hsyn hshort =>
    have hout : cyclesToToggle s = 0 := by
      rw [cyclesToToggle_of_pending hsyn, cyclesAfterChunk_of_short hshort]
    refine ⟨rfl, .inr (.inr ⟨rfl, rfl, hout, ?_⟩)⟩
    rw [realisedHalfPeriod_of_short hshort]
    exact cyclesToToggle_of_trim_loaded rfl (cyclesAfterChunk_of_short hshort) rfl
  | synLf hsyn hlong hc hr =>
    refine ⟨rfl, .inr (.inl ⟨rfl, rfl, ?_⟩)⟩
    rw [cyclesToToggle_of_pending hsyn, cyclesAfterChunk_of_full hlong hc, ← Nat.sub_add_cancel hr]
    exact cyclesToToggle_of_full_started rfl hlong hc (hpend hsyn)
  | synLr hsyn hlong hc hr =>
    refine ⟨rfl, .inr (.inl ⟨rfl, rfl, ?_⟩)⟩
    rw [cyclesToToggle_of_pending hsyn, cyclesAfterChunk_of_full hlong hc, hr, Nat.zero_mul, Nat.zero_add]
    exact cyclesToToggle_of_trim_loaded rfl (cyclesAfterChunk_of_trim rfl) rfl
  | synLt hsyn hlong hc =>
    have hout : cyclesToToggle s = 0 := by
      rw [cyclesToToggle_of_pending hsyn, cyclesAfterChunk_of_trim hc]
    refine ⟨rfl, .inr (.inr ⟨rfl, rfl, hout, ?_⟩)⟩
    rw [realisedHalfPeriod_of_long hlong]
    exact cyclesToToggle_of_full_started rfl hlong rfl (reloadCount_zero s.cfg)
  | _ => exact ⟨rfl, .inr (.inl ⟨rfl, rfl, rfl⟩)⟩

/-- R150 for one operation: every toggle needs a pending completion, and with `T_SYN` stopped none comes up. -/
theorem idle_stays_low (h : Performs s i t) (hI4 : IdleIsQuiet s) (hm : s.mode = .idle) :
    t.out = false ∧ t.tfSyn = false := by
  obtain ⟨hstop, hquiet⟩ := hI4
  obtain ⟨hsyn, hout, -⟩ := hquiet hm
  cases h with
  | cnt => exact ⟨hout, (cntEffect_syn_stopped hsyn (hstop.1 hm)).2⟩
  | deact => exact ⟨rfl, rfl⟩
  | synNop hpend | synSt hpend | synLf hpend | synLr hpend | synLt hpend =>
    exact absurd (hsyn.symm.trans hpend) Bool.false_ne_true
  | _ => exact ⟨hout, hsyn⟩

end Performs

/-- Settles O52: what a step does outside the block leaves the clock alone, and `Performs.toggle_clock` is the rest. -/
theorem outputTogglesOnTheClock : Obligations.OutputTogglesOnTheClock := by
  intro s s' hs hm hstep hm'
  have hs' : Sound s' := stepKeepsTheRanges s s' hs hstep
  obtain ⟨⟨-, hI3, -⟩, -⟩ := hs'
  obtain ⟨m, tr, n, rfl | ⟨i, hexec⟩⟩ := step_cases hstep
  · exact ⟨rfl, hI3, .inr (.inl ⟨rfl, rfl, rfl⟩)⟩
  · obtain ⟨hhalf, hclock⟩ := (performs_of_exec hexec).toggle_clock hs hm hm'
    exact ⟨hhalf, hI3, hclock⟩

/-- Settles O50: `Performs.idle_stays_low` gives the output, I3 the indicator. -/
theorem idleEngineKeepsTheOutputLow : Obligations.IdleEngineKeepsTheOutputLow := by
  intro s s' hInv hm hstep
  obtain ⟨-, hI3', -⟩ := stepKeepsTheInvariants s s' hInv hstep
  obtain ⟨-, -, hI4, -⟩ := hInv
  obtain ⟨hsyn, hout, -⟩ := hI4.2 hm
  have hlow : s'.out = false ∧ s'.tfSyn = false := by
    obtain ⟨m, tr, n, rfl | ⟨i, hexec⟩⟩ := step_cases hstep
    · exact ⟨hout, hsyn⟩
    · exact (performs_of_exec hexec).idle_stays_low hI4 hm
  obtain ⟨hout', hsyn'⟩ := hlow
  exact ⟨hout, hout', hI3'.trans hout', hsyn'⟩

/-! ## The first half-period of an activation -/

/-- Settles O51: I2 and I4 say that the activation finds the line low and no completion pending; the half-period is the
one the plan adds up to (R119), and the degenerate reload makes a TRIM chunk of `ZERO_CHUNK_CYCLES` out of none. -/
theorem activationStartsALowHalfPeriod : Obligations.ActivationStartsALowHalfPeriod := by
  rintro i s t h hInv rfl hexec hi
  have hplan := planReconstructsTheHalfPeriod i s t hi hexec
  have hp := performs_of_exec hexec
  obtain ⟨-, hI3, -⟩ := hp.keeps_inv hInv
  obtain ⟨hI2, -, hI4, -⟩ := hInv
  have hA : s.activeFlag = false := by
    rcases hi with rfl | rfl <;> cases hp <;> assumption
  obtain ⟨hout, hsyn⟩ := hp.idle_stays_low hI4 (hI2 hA).1
  refine ⟨hout, hI3.trans hout, ?_⟩
  rw [hplan]
  rcases hi with rfl | rfl
  · obtain ⟨-, ht⟩ := execActS_next_iff.1 hexec
    have hm : t.mode = .short := by rw [ht]; rfl
    have hcnt : t.tSyn.cnt = reloadCount t.cfg.toParams t.trimReloadValue := by rw [ht]; rfl
    rw [realisedHalfPeriod_of_short hm]
    refine ⟨cyclesToToggle_of_trim_loaded hsyn (cyclesAfterChunk_of_short hm) hcnt, ?_⟩
    simp [trimChunkCycles, hm]
  · obtain ⟨-, ht⟩ := execActL_next_iff.1 hexec
    have hm : t.mode = .long := by rw [ht]; rfl
    have hc : t.chunkKind = .full := by rw [ht]; rfl
    have hr : t.remainingFullChunks = t.chainCount := by rw [ht]; rfl
    have hcnt : t.tSyn.cnt = 0 := by rw [ht]; exact reloadCount_zero s.cfg
    rw [realisedHalfPeriod_of_long hm, ← hr]
    refine ⟨cyclesToToggle_of_full_started hsyn hm hc hcnt, ?_⟩
    by_cases hlt : t.trimReloadValue < t.cfg.timerRange
    · simp [trimChunkCycles, hm, hlt]
    · simp [trimChunkCycles, hm, hlt, Nat.sub_eq_zero_of_le (not_lt.1 hlt)]

end Sys2Proof.Machine

/-!
PROOFS. The display refresher against the rest of the block (spec/43_display_refresher.md), DigitBuffer as a queue
(spec/42_keypad.md section 4), and the race of R229.
-/

namespace Sys2Proof

/-- Settles O34, by induction on the digits: one shift drops the oldest of five. -/
theorem digitBufferIsAFifoOfFour : Obligations.DigitBufferIsAFifoOfFour := by
  intro b ds
  induction ds generalizing b with
  | nil => rfl
  | cons v vs ih =>
    have hshift : Machine.digitList (b.shiftIn v) ++ vs = (Machine.digitList b ++ v :: vs).drop 1 := rfl
    rw [List.foldl_cons, ih, hshift, List.drop_drop, List.length_cons, Nat.add_comm]

namespace Machine

variable {i : Instr} {s t : State}

/-! ## The refresher on its own -/

/-- R31: the enable bit of a position is its bit and no other. -/
theorem getLsbD_enableBit (i j : Position) : (enableBit i).getLsbD j.val = decide (j = i) := by
  revert i j; decide

theorem serve_dsp_load (hdisp : s.tfDisp = true) (hp : s.phase = .loadSegments) :
    serve .dsp s = .next { clearTfDisp s with
      digitEn := 0, seg := s.cfg.segTable.read (s.d.read s.activeDigitIndex), phase := .enableDigit } :=
  (Performs.dspLoad hdisp hp).serve_eq rfl

theorem serve_dsp_enable (hdisp : s.tfDisp = true) (hp : s.phase = .enableDigit) :
    serve .dsp s = .next { clearTfDisp s with
      digitEn := s.digitEn ||| enableBit s.activeDigitIndex,
      activeDigitIndex := s.activeDigitIndex + 1, phase := .loadSegments } :=
  (Performs.dspEn hdisp hp).serve_eq rfl

/-- Settles O39: the load leaves all digits off, so the enable after it leaves on the bit of its position alone. -/
theorem twoTicksShowOnePosition : Obligations.TwoTicksShowOnePosition := by
  intro s hp
  refine ⟨_, _, serve_dsp_load rfl hp, rfl, rfl, serve_dsp_enable rfl rfl, rfl, fun j => ?_, Fin.val_add _ 1, rfl, rfl⟩
  exact (congrArg (BitVec.getLsbD · j.val) BitVec.zero_or).trans (getLsbD_enableBit _ j)

/-! ## The refresher and the rest of the block -/

/-- `s` with everything the refresher owns (R190) as in `a`. -/
def graftDisplay (a s : State) : State :=
  { s with activeDigitIndex := a.activeDigitIndex, phase := a.phase, digitEn := a.digitEn, seg := a.seg,
           tDispCnt := a.tDispCnt, tfDisp := a.tfDisp }

/-- Masking is grafting the fixed values of any masked state. -/
theorem maskDisplay_eq_graftDisplay (s u : State) : maskDisplay s = graftDisplay (maskDisplay u) s := rfl

namespace Performs

/-- R192: only the load writes the segments. -/
theorem seg_writers (h : Performs s i t) (hseg : t.seg ≠ s.seg) : (∃ ii, i = .dspLoad ii) ∧ t.digitEn = 0 := by
  cases h with
  | dspLoad => exact ⟨⟨_, rfl⟩, rfl⟩
  | _ => exact absurd rfl hseg

/-- R193: only the enable sets a bit of `digit_en`. -/
theorem digitEn_setters (h : Performs s i t) {j : Nat} (hs : s.digitEn.getLsbD j = false)
    (ht : t.digitEn.getLsbD j = true) : (∃ ii, i = .dspEn ii) ∧ t.seg = s.seg := by
  cases h with
  | dspEn => exact ⟨⟨_, rfl⟩, rfl⟩
  | dspLoad => simp at ht
  | _ => exact absurd (hs.symm.trans ht) Bool.false_ne_true

/-- R190: a DSP operation writes the refresher's own fields only. -/
theorem maskDisplay_of_dsp (h : Performs s i t) (hi : i.eventClass = some .dsp) : maskDisplay t = maskDisplay s := by
  cases h with
  | dspLoad | dspEn => rfl
  | _ => simp [Instr.eventClass] at hi

/-- R190, R4: no condition and no effect outside `CNT` and the class DSP reads a field of the refresher. -/
theorem under_graftDisplay (h : Performs s i t) (hi : i.eventClass ≠ some .dsp) (hcnt : i ≠ .cnt) (a : State) :
    Performs (graftDisplay a s) i (graftDisplay a t) := by
  cases h with
  | cnt => exact absurd rfl hcnt
  | actZ hA hf => exact .actZ hA hf
  | actS hA hf hh => exact .actS hA hf hh
  | actL hA hf hh => exact .actL hA hf hh
  | deact hA => exact .deact hA
  | synNop hsyn hm => exact .synNop hsyn hm
  | synSt hsyn hm => exact .synSt hsyn hm
  | synLf hsyn hm hc hr => exact .synLf hsyn hm hc hr
  | synLr hsyn hm hc hr => exact .synLr hsyn hm hc hr
  | synLt hsyn hm hc => exact .synLt hsyn hm hc
  | keyIdle hA hk => exact .keyIdle hA hk
  | keyDrop hA hk => exact .keyDrop hA hk
  | keyRowMiss hA hk hrow => exact .keyRowMiss hA hk hrow
  | keyRowHit r hA hk hrow => exact .keyRowHit r hA hk hrow
  | keyColMiss hA hk hcol => exact .keyColMiss hA hk hcol
  | keyColUnused hA hk hcol hdig => exact .keyColUnused hA hk hcol hdig
  | keyColDigit v hA hk hdig => exact .keyColDigit v hA hk hdig
  | keyWait hk => exact .keyWait hk
  | dspLoad | dspEn => exact absurd rfl hi

/-- R32: what is not `CNT` and not of the class DSP leaves the refresher alone. -/
theorem display_kept (h : Performs s i t) (hi : i.eventClass ≠ some .dsp) (hcnt : i ≠ .cnt) :
    t.activeDigitIndex = s.activeDigitIndex ∧ t.phase = s.phase ∧ t.digitEn = s.digitEn ∧ t.seg = s.seg ∧
      t.tDispCnt = s.tDispCnt ∧ t.tfDisp = s.tfDisp := by
  cases h with
  | cnt => exact absurd rfl hcnt
  | dspLoad | dspEn => exact absurd rfl hi
  | _ => exact ⟨rfl, rfl, rfl, rfl, rfl, rfl⟩

end Performs

/-- Settles O40: the load and the enable are two operations. -/
theorem segmentsAndEnablesNeverChangeTogether : Obligations.SegmentsAndEnablesNeverChangeTogether := by
  intro i s t hexec
  have h := performs_of_exec hexec
  exact ⟨h.seg_writers, fun _ => h.digitEn_setters⟩

/-- Settles O41: the mask is one graft, the same on both sides of an operation that does not see it. -/
theorem displayDoesNotInfluenceTheBlock : Obligations.DisplayDoesNotInfluenceTheBlock := by
  intro i s t hexec
  have h := performs_of_exec hexec
  refine ⟨h.maskDisplay_of_dsp, fun hi hcnt => ⟨exec_of_performs ?_, h.display_kept hi hcnt⟩⟩
  rw [maskDisplay_eq_graftDisplay s s, maskDisplay_eq_graftDisplay t s]
  exact h.under_graftDisplay hi hcnt _

/-! ## A control edge and a pending completion (R229) -/

/-- What is left of a state after R206, the stale count forgotten. -/
theorem maskStaleCount_deactEffect (s : State) : maskStaleCount (deactEffect s) = { s with
    d := ⟨0, 0, 0, 0⟩, activeFlag := false, mode := .idle, chunkKind := .full, remainingFullChunks := 0,
    chainCount := 0, trimReloadValue := 0, out := false, ind := false, tSyn := ⟨0, false⟩, tfSyn := false } := rfl

/-- R206 overwrites all a completion writes, but for the count of the timer it stops. -/
theorem Performs.deactEffect_after_syn (h : Performs s i t) (hi : i.eventClass = some .syn) :
    maskStaleCount (deactEffect t) = maskStaleCount (deactEffect s) := by
  rw [maskStaleCount_deactEffect, maskStaleCount_deactEffect]
  cases h with
  | synNop | synSt | synLf | synLr | synLt => rfl
  | _ => simp [Instr.eventClass] at hi

/-- Settles O44: a completion leaves `ActiveFlag` alone, so the edge after it deactivates too. -/
theorem edgeAndPendingCompletionEndAlike : Obligations.EdgeAndPendingCompletionEndAlike := by
  intro s hInv
  obtain ⟨hI2, -, hI4, -⟩ := hInv
  refine ⟨fun hA => (hI4.2 (hI2 hA).1).1, fun hA hsyn => ?_⟩
  obtain ⟨i, v, hv, hi⟩ := exists_performs_syn hsyn
  have hAv : v.activeFlag = true := by
    by_contra hne
    have hctl := hv.activeFlag_writers fun heq => hne (heq.trans hA)
    exact nomatch Option.some.inj (hi.symm.trans hctl)
  exact ⟨deactEffect s, v, deactEffect v, (Performs.deact hA).serve_eq rfl, hv.serve_eq hi,
    (Performs.deact hAv).serve_eq rfl, hv.deactEffect_after_syn hi, rfl, rfl, rfl, rfl, rfl, rfl, rfl⟩

end Machine
end Sys2Proof

/-!
PROOFS. Which operations commute (spec/60_exceptions.md section 3, R230). An operation that writes only one part of the
state and does not see another part commutes with one that writes only the other part and does not see the first.
-/

namespace Sys2Proof.Machine

variable {i j : Instr} {s t u : State} {M N : State → State → State}

/-! ## Parts of the state: `s` with the part as in `a` -/

/-- The toggle generator: what a completion writes, and the plan. -/
def graftEngine (a s : State) : State :=
  { s with mode := a.mode, chunkKind := a.chunkKind, remainingFullChunks := a.remainingFullChunks,
           chainCount := a.chainCount, trimReloadValue := a.trimReloadValue, out := a.out, ind := a.ind,
           tSyn := a.tSyn, tfSyn := a.tfSyn }

/-- The toggle generator with what else a control edge writes. -/
def graftControl (a s : State) : State := { graftEngine a s with activeFlag := a.activeFlag, d := a.d }

/-- The two registers of a scan. -/
def graftScan (a s : State) : State := { s with ks := a.ks, rowLatch := a.rowLatch }

/-- The scan with the debounce wait and DigitBuffer. -/
def graftKeypad (a s : State) : State := { graftScan a s with d := a.d, debLeft := a.debLeft, tDeb := a.tDeb }

/-- The part with nothing in it. -/
def graftNothing (_a s : State) : State := s

/-! ## Separate parts commute -/

/-- The operation writes the part and nothing else. -/
def WritesOnly (M : State → State → State) (i : Instr) : Prop := ∀ {s t}, Performs s i t → t = M t s

/-- The operation neither reads nor writes the part. -/
def Ignores (N : State → State → State) (i : Instr) : Prop :=
  ∀ a {s t}, Performs s i t → Performs (N a s) i (N a t)

/-- Two parts with no field in common: they can be grafted in either order, and each can be put back. -/
structure Separate (M N : State → State → State) : Prop where
  comm : ∀ a b s, M a (N b s) = N b (M a s)
  back_left : ∀ a s, M s (M a s) = s
  back_right : ∀ a s, N s (N a s) = s

theorem Separate.symm (h : Separate M N) : Separate N M :=
  ⟨fun a b s => (h.comm b a s).symm, h.back_right, h.back_left⟩

/-- Of two operations performed in turn the second runs first as well: undo the part the first wrote, then graft the
part the second wrote. -/
theorem Separate.performs_swap (h : Separate M N) (hi : WritesOnly M i) (hiN : Ignores N i) (hj : WritesOnly N j)
    (hjM : Ignores M j) (hst : Performs s i t) (htu : Performs t j u) : ∃ v, Performs s j v ∧ Performs v i u := by
  have ht : t = M t s := hi hst
  have hu : u = N u t := hj htu
  have hundo : M s t = s := by rw [ht, h.back_left]
  have hv : M s u = N u s := by rw [hu, h.comm, hundo, ← hu]
  have hsv : Performs (M s t) j (M s u) := hjM s htu
  have hvu : Performs (N u s) i (N u t) := hiN u hst
  rw [hundo, hv] at hsv
  rw [← hu] at hvu
  exact ⟨N u s, hsv, hvu⟩

theorem Separate.opsCommute (h : Separate M N) (hi : WritesOnly M i) (hiN : Ignores N i) (hj : WritesOnly N j)
    (hjM : Ignores M j) : OpsCommute i j := by
  intro s u
  simp only [exec_next_iff]
  constructor
  · rintro ⟨t, hst, htu⟩
    exact h.performs_swap hi hiN hj hjM hst htu
  · rintro ⟨t, hst, htu⟩
    exact h.symm.performs_swap hj hjM hi hiN hst htu

theorem separate_engine_display : Separate graftEngine graftDisplay :=
  ⟨fun _ _ _ => rfl, fun _ _ => rfl, fun _ _ => rfl⟩

theorem separate_engine_keypad : Separate graftEngine graftKeypad :=
  ⟨fun _ _ _ => rfl, fun _ _ => rfl, fun _ _ => rfl⟩

theorem separate_display_scan : Separate graftDisplay graftScan :=
  ⟨fun _ _ _ => rfl, fun _ _ => rfl, fun _ _ => rfl⟩

theorem separate_display_keypad : Separate graftDisplay graftKeypad :=
  ⟨fun _ _ _ => rfl, fun _ _ => rfl, fun _ _ => rfl⟩

theorem separate_control_display : Separate graftControl graftDisplay :=
  ⟨fun _ _ _ => rfl, fun _ _ => rfl, fun _ _ => rfl⟩

theorem separate_control_nothing : Separate graftControl graftNothing :=
  ⟨fun _ _ _ => rfl, fun _ _ => rfl, fun _ _ => rfl⟩

/-! ## What each class writes -/

theorem writesOnly_engine (hi : i.eventClass = some .syn) : WritesOnly graftEngine i := by
  intro s t h
  cases h with
  | synNop | synSt | synLf | synLr | synLt => rfl
  | _ => simp [Instr.eventClass] at hi

theorem writesOnly_control (hi : i.eventClass = some .ctl) : WritesOnly graftControl i := by
  intro s t h
  cases h with
  | actZ | actS | actL | deact => rfl
  | _ => simp [Instr.eventClass] at hi

theorem writesOnly_display (hi : i.eventClass = some .dsp) : WritesOnly graftDisplay i := by
  intro s t h
  cases h with
  | dspLoad | dspEn => rfl
  | _ => simp [Instr.eventClass] at hi

theorem writesOnly_keypad (hi : i.eventClass = some .key) : WritesOnly graftKeypad i := by
  intro s t h
  cases h with
  | keyIdle | keyDrop | keyRowMiss | keyRowHit | keyColMiss | keyColUnused | keyColDigit | keyWait => rfl
  | _ => simp [Instr.eventClass] at hi

/-- Only `KEY.COL.DIGIT` goes beyond the scan. -/
theorem writesOnly_scan (hi : i.eventClass = some .key) (hdigit : i ≠ .keyColDigit) : WritesOnly graftScan i := by
  intro s t h
  cases h with
  | keyIdle | keyDrop | keyRowMiss | keyRowHit | keyColMiss | keyColUnused | keyWait => rfl
  | keyColDigit => exact absurd rfl hdigit
  | _ => simp [Instr.eventClass] at hi

theorem writesOnly_nothing_keyWait : WritesOnly graftNothing .keyWait := by
  intro s t h
  cases h with
  | keyWait => rfl

/-! ## What each class does not see -/

theorem ignores_display {c : EventClass} (hi : i.eventClass = some c) (hcnt : c ≠ .cnt) (hdsp : c ≠ .dsp) :
    Ignores graftDisplay i :=
  fun a _ _ h => h.under_graftDisplay (fun hi' => hdsp (Option.some.inj (hi.symm.trans hi')))
    (fun hi' => hcnt (Option.some.inj (hi.symm.trans (congrArg Instr.eventClass hi')))) a

theorem ignores_nothing (i : Instr) : Ignores graftNothing i := fun _ _ _ h => h

theorem syn_ignores_keypad (hi : i.eventClass = some .syn) : Ignores graftKeypad i := by
  intro a s t h
  cases h with
  | synNop hsyn hm => exact .synNop hsyn hm
  | synSt hsyn hm => exact .synSt hsyn hm
  | synLf hsyn hm hc hr => exact .synLf hsyn hm hc hr
  | synLr hsyn hm hc hr => exact .synLr hsyn hm hc hr
  | synLt hsyn hm hc => exact .synLt hsyn hm hc
  | _ => simp [Instr.eventClass] at hi

theorem dsp_ignores_engine (hi : i.eventClass = some .dsp) : Ignores graftEngine i := by
  intro a s t h
  cases h with
  | dspLoad hdisp hp => exact .dspLoad hdisp hp
  | dspEn hdisp hp => exact .dspEn hdisp hp
  | _ => simp [Instr.eventClass] at hi

theorem key_ignores_engine (hi : i.eventClass = some .key) : Ignores graftEngine i := by
  intro a s t h
  cases h with
  | keyIdle hA hk => exact .keyIdle hA hk
  | keyDrop hA hk => exact .keyDrop hA hk
  | keyRowMiss hA hk hrow => exact .keyRowMiss hA hk hrow
  | keyRowHit r hA hk hrow => exact .keyRowHit r hA hk hrow
  | keyColMiss hA hk hcol => exact .keyColMiss hA hk hcol
  | keyColUnused hA hk hcol hdig => exact .keyColUnused hA hk hcol hdig
  | keyColDigit v hA hk hdig => exact .keyColDigit v hA hk hdig
  | keyWait hk => exact .keyWait hk
  | _ => simp [Instr.eventClass] at hi

/-- `DSP.LOAD` reads DigitBuffer, so it sees the keypad path but not the scan. -/
theorem dspLoad_ignores_scan (ii : Position) : Ignores graftScan (.dspLoad ii) := by
  intro a s t h
  cases h with
  | dspLoad hdisp hp => exact .dspLoad hdisp hp

theorem dspEn_ignores_keypad (ii : Position) : Ignores graftKeypad (.dspEn ii) := by
  intro a s t h
  cases h with
  | dspEn hdisp hp => exact .dspEn hdisp hp

theorem dspEn_ignores_control (ii : Position) : Ignores graftControl (.dspEn ii) := by
  intro a s t h
  cases h with
  | dspEn hdisp hp => exact .dspEn hdisp hp

theorem keyWait_ignores_control : Ignores graftControl .keyWait := by
  intro a s t h
  cases h with
  | keyWait hk => exact .keyWait hk

/-! ## The pairs of R230 -/

theorem syn_dsp_commute (hi : i.eventClass = some .syn) (hj : j.eventClass = some .dsp) : OpsCommute i j :=
  separate_engine_display.opsCommute (writesOnly_engine hi) (ignores_display hi nofun nofun) (writesOnly_display hj)
    (dsp_ignores_engine hj)

theorem syn_key_commute (hi : i.eventClass = some .syn) (hj : j.eventClass = some .key) : OpsCommute i j :=
  separate_engine_keypad.opsCommute (writesOnly_engine hi) (syn_ignores_keypad hi) (writesOnly_keypad hj)
    (key_ignores_engine hj)

theorem dspLoad_key_commute (ii : Position) (hj : j.eventClass = some .key) (hdigit : j ≠ .keyColDigit) :
    OpsCommute (.dspLoad ii) j :=
  separate_display_scan.opsCommute (writesOnly_display rfl) (dspLoad_ignores_scan ii) (writesOnly_scan hj hdigit)
    (ignores_display hj nofun nofun)

theorem dspEn_key_commute (ii : Position) (hj : j.eventClass = some .key) : OpsCommute (.dspEn ii) j :=
  separate_display_keypad.opsCommute (writesOnly_display rfl) (dspEn_ignores_keypad ii) (writesOnly_keypad hj)
    (ignores_display hj nofun nofun)

theorem ctl_dspEn_commute (ii : Position) (hi : i.eventClass = some .ctl) : OpsCommute i (.dspEn ii) :=
  separate_control_display.opsCommute (writesOnly_control hi) (ignores_display hi nofun nofun) (writesOnly_display rfl)
    (dspEn_ignores_control ii)

theorem ctl_keyWait_commute (hi : i.eventClass = some .ctl) : OpsCommute i .keyWait :=
  separate_control_nothing.opsCommute (writesOnly_control hi) (ignores_nothing i) writesOnly_nothing_keyWait
    keyWait_ignores_control

/-- Settles O45: in each pair the parts written are separate and neither operation sees the other's. -/
theorem disjointOperationsCommute : Obligations.DisjointOperationsCommute := by
  refine ⟨fun _ _ => syn_dsp_commute, fun _ _ => syn_key_commute, fun i j hi hj hpair => ?_,
    fun _ => ctl_dspEn_commute, fun _ => ctl_keyWait_commute⟩
  cases i with
  | dspLoad ii => exact dspLoad_key_commute ii hj fun hdigit => hpair ⟨⟨ii, rfl⟩, hdigit⟩
  | dspEn ii => exact dspEn_key_commute ii hj
  | _ => simp [Instr.eventClass] at hi

/-! ## The pairs that do not commute -/

/-- If two operations commute and run in both orders, both orders end in one state. -/
theorem OpsCommute.ends_alike {t' u' : State} (h : OpsCommute i j) (hst : Performs s i t) (htu : Performs t j u)
    (hst' : Performs s j t') (htu' : Performs t' i u') : u = u' := by
  obtain ⟨v, hv, hu⟩ := (h s u).1 ⟨t, exec_of_performs hst, exec_of_performs htu⟩
  obtain rfl : t' = v := Host.Outcome.next.inj ((exec_of_performs hst').symm.trans hv)
  exact Host.Outcome.next.inj (hu.symm.trans (exec_of_performs htu'))

/-- Phase 2 of a scan with the example parameters: the digits `d`, the key at `p` down and its row latched. -/
def scanningKey (d : DigitBuffer) (p : KeyRow × KeyCol) : State :=
  { State.resetWith Config.example with d := d, ks := .cols, rowLatch := p.1, pressed := matrixOf [p] }

/-- Four different digits up, a display tick pending at position `ii`, key 1 down in phase 2. -/
def tickWhileScanning (ii : Position) : State :=
  { scanningKey ⟨1, 2, 3, 4⟩ (0, 0) with tfDisp := true, activeDigitIndex := ii }

/-- The pattern loaded is of the digit before the shift or after it. -/
theorem not_opsCommute_dspLoad_keyColDigit (ii : Position) : ¬ OpsCommute (.dspLoad ii) .keyColDigit := by
  intro h
  have hstate := h.ends_alike (s := tickWhileScanning ii) (.dspLoad rfl rfl) (.keyColDigit 1 rfl rfl rfl)
    (.keyColDigit 1 rfl rfl rfl) (.dspLoad rfl rfl)
  have hpattern : ∀ ii : Position, Config.example.segTable.read (DigitBuffer.read ⟨1, 2, 3, 4⟩ ii) ≠
      Config.example.segTable.read (DigitBuffer.read ⟨2, 3, 4, 1⟩ ii) := by decide
  exact hpattern ii (congrArg State.seg hstate)

/-- The pattern loaded is of the digit before the deactivation or of the 0 after it. -/
theorem not_opsCommute_deact_dspLoad (ii : Position) : ¬ OpsCommute .deact (.dspLoad ii) := by
  intro h
  have hstate := h.ends_alike (s := { tickWhileScanning ii with activeFlag := true }) (.deact rfl) (.dspLoad rfl rfl)
    (.dspLoad rfl rfl) (.deact rfl)
  have hpattern : ∀ ii : Position, Config.example.segTable.read (DigitBuffer.read ⟨0, 0, 0, 0⟩ ii) ≠
      Config.example.segTable.read (DigitBuffer.read ⟨1, 2, 3, 4⟩ ii) := by decide
  exact hpattern ii (congrArg State.seg hstate)

/-- After the key the activation still runs; after the activation the key does not. -/
theorem not_opsCommute_keyColDigit_of_runs (hi : i.eventClass = some .ctl) (hst : Performs s .keyColDigit t)
    (htu : Performs t i u) : ¬ OpsCommute i .keyColDigit := by
  intro h
  obtain ⟨v, hv, hu⟩ := (h s u).2 ⟨t, exec_of_performs hst, exec_of_performs htu⟩
  have htoggled := (performs_of_exec hv).activeFlag_toggles hi
  cases hst with
  | keyColDigit _ hA =>
    cases performs_of_exec hu with
    | keyColDigit _ hAv => simp [hA, hAv] at htoggled

/-- Settles O46: one state for each pair; for the activations the digits after the key give `f` = 0, 81 and 1. -/
theorem dependentOperationsDoNotCommute : Obligations.DependentOperationsDoNotCommute := by
  refine ⟨fun ii => ⟨not_opsCommute_dspLoad_keyColDigit ii, not_opsCommute_deact_dspLoad ii⟩, ?_, ?_, ?_⟩
  · exact not_opsCommute_keyColDigit_of_runs (s := scanningKey ⟨0, 0, 0, 0⟩ (3, 1)) rfl
      (.keyColDigit 0 rfl rfl (by decide)) (.actZ rfl (by decide))
  · exact not_opsCommute_keyColDigit_of_runs (s := scanningKey ⟨0, 0, 0, 8⟩ (0, 0)) rfl
      (.keyColDigit 1 rfl rfl (by decide)) (.actS rfl (by decide) (by decide))
  · exact not_opsCommute_keyColDigit_of_runs (s := scanningKey ⟨0, 0, 0, 0⟩ (0, 0)) rfl
      (.keyColDigit 1 rfl rfl (by decide)) (.actL rfl (by decide) (by decide))

end Sys2Proof.Machine

/-!
PROOFS. Clocks under a schedule: the debounce wait under any schedule (spec/42_keypad.md section 5), and the eager
schedule of R97, by one rule for a cycle of it and one induction for its runs.
-/

namespace Sys2Proof.Machine

variable {i : Instr} {c : EventClass} {s t u : State}

/-! ## The debounce clock (R172, R173) -/

/-- I7, I9: cycles are left exactly during the wait. -/
theorem debounceCyclesLeft_pos_iff (hI7 : DebounceRuns s) (hI9 : CountersInRange s) :
    0 < debounceCyclesLeft s ↔ s.ks = .debounce := by
  obtain ⟨-, hlt, -⟩ := hI9
  rw [debounceCyclesLeft, hI7.1, hI7.2]
  constructor
  · intro hpos
    by_contra hzero
    rw [Nat.lt_one_iff.1 (not_le.1 hzero), Nat.zero_mul, Nat.zero_sub] at hpos
    exact Nat.lt_irrefl 0 hpos
  · intro hleft
    exact Nat.sub_pos_of_lt (hlt.trans_le (Nat.le_mul_of_pos_left _ hleft))

/-- The wait is on, or it has ended: back in phase 1 with `T_DEB` stopped at 0. -/
def WaitingOrDone (s : State) : Prop :=
  s.ks = .debounce ∨ s.ks = .rows ∧ s.debLeft = 0 ∧ s.tDeb = ⟨0, false⟩

/-- R132, R172: a cycle takes one off the wait, and ends it when it takes the last. -/
theorem cntEffect_debounceClock (hI7 : DebounceRuns s) (hI9 : CountersInRange s) (hk : s.ks = .debounce) :
    debounceCyclesLeft (cntEffect s) + 1 = debounceCyclesLeft s ∧ WaitingOrDone (cntEffect s) := by
  have hpos := (debounceCyclesLeft_pos_iff hI7 hI9).2 hk
  have hcfg : (cntEffect s).cfg = s.cfg := rfl
  have hrange := s.cfg.timerRange_pos
  simp only [debounceCyclesLeft, hcfg] at hpos ⊢
  rcases cntEffect_wait hI7 hk with
    ⟨-, hks, hleft, hch⟩ | ⟨hlast, hks, hleft, -, hch⟩ | ⟨hlast, hks, hone, hleft, hch⟩
  · rw [hleft, hch]
    exact ⟨by simp only; omega, .inl hks⟩
  · rw [hleft, hch, hlast, Nat.succ_mul]
    exact ⟨by simp only; omega, .inl hks⟩
  · rw [hone, hleft, hch, hlast]
    exact ⟨by simp; omega, .inr ⟨hks, hleft, hch⟩⟩

/-- R173: no operation but `CNT` moves the wait; the KEY operations that write `KS` ask for a scan. -/
theorem Performs.debounce_clock (h : Performs s i t) (hI7 : DebounceRuns s) (hI9 : CountersInRange s)
    (hk : s.ks = .debounce) :
    (t.t = s.t + 1 ∧ debounceCyclesLeft t + 1 = debounceCyclesLeft s ∨
      t.t = s.t ∧ debounceCyclesLeft t = debounceCyclesLeft s) ∧ WaitingOrDone t := by
  cases h with
  | cnt =>
    obtain ⟨hclock, hwait⟩ := cntEffect_debounceClock hI7 hI9 hk
    exact ⟨.inl ⟨rfl, hclock⟩, hwait⟩
  | keyDrop _ hk' | keyRowHit _ _ hk' | keyColMiss _ hk' | keyColUnused _ hk' | keyColDigit _ _ hk' =>
    exact absurd (hk'.symm.trans hk) (by decide)
  | _ => exact ⟨.inr ⟨rfl, rfl⟩, .inl hk⟩

/-- Settles O36: `Performs.debounce_clock` moves the clock, and the invariants of the state reached say what it
reads. -/
theorem debounceWaitIsUncancelable : Obligations.DebounceWaitIsUncancelable := by
  intro s s' hs hk hstep
  obtain ⟨⟨-, -, -, -, -, hI7', -, hI9'⟩, -⟩ := stepKeepsTheRanges s s' hs hstep
  obtain ⟨⟨-, -, -, -, -, hI7, -, hI9⟩, -⟩ := hs
  have hclock : (s'.t = s.t + 1 ∧ debounceCyclesLeft s' + 1 = debounceCyclesLeft s ∨
      s'.t = s.t ∧ debounceCyclesLeft s' = debounceCyclesLeft s) ∧ WaitingOrDone s' := by
    obtain ⟨m, tr, n, rfl | ⟨i, hexec⟩⟩ := step_cases hstep
    · exact ⟨.inr ⟨rfl, rfl⟩, .inl hk⟩
    · exact (performs_of_exec hexec).debounce_clock hI7 hI9 hk
  obtain ⟨hclock, hwait⟩ := hclock
  have hpos := debounceCyclesLeft_pos_iff hI7' hI9'
  refine ⟨hclock, hpos.symm, fun hzero => ?_⟩
  have hk' : s'.ks ≠ .debounce := fun hk' => (hpos.2 hk').ne' hzero
  obtain hks | ⟨hks, -⟩ := hwait
  · exact absurd hks hk'
  · exact ⟨hks, hI7'.stopped hk'⟩

/-! ## One cycle of the eager schedule (R97) -/

/-- `t` is `s` after an event of class `c` if one is pending, and `s` itself if none is. -/
def ServedIfPending (c : EventClass) (s t : State) : Prop :=
  enabled c s = false ∧ t = s ∨ ∃ i, i.eventClass = some c ∧ Performs s i t

theorem exists_servedIfPending (c : EventClass) (s : State) : ∃ t, ServedIfPending c s t := by
  cases hc : enabled c s with
  | false => exact ⟨s, .inl ⟨hc, rfl⟩⟩
  | true =>
    obtain ⟨i, t, h, hi⟩ := exists_performs hc
    exact ⟨t, .inr ⟨i, hi, h⟩⟩

/-- The two conditional items of R97, in one form. -/
theorem ServedIfPending.ite_serve_eq (h : ServedIfPending c s t) :
    (if enabled c s then serve c s else .next s) = .next t := by
  obtain ⟨hc, rfl⟩ | ⟨i, hi, hp⟩ := h
  · rw [hc, if_neg Bool.false_ne_true]
  · rw [hp.enabled_of_eventClass hi, if_pos rfl, hp.serve_eq hi]

theorem ServedIfPending.eq_self (h : ServedIfPending c s t) (hc : enabled c s = false) : t = s := by
  obtain ⟨-, rfl⟩ | ⟨i, hi, hp⟩ := h
  · rfl
  · exact absurd (hc.symm.trans (hp.enabled_of_eventClass hi)) Bool.false_ne_true

theorem ServedIfPending.keeps_sound (h : ServedIfPending c s t) (hs : Sound s) : Sound t := by
  obtain ⟨-, rfl⟩ | ⟨i, -, hp⟩ := h
  · exact hs
  · exact hp.keeps_sound hs

/-- R136: nothing of the class is pending after it. -/
theorem ServedIfPending.tfSyn_eq_false (h : ServedIfPending .syn s t) : t.tfSyn = false := by
  obtain ⟨hc, rfl⟩ | ⟨i, hi, hp⟩ := h
  · exact hc
  · cases hp with
    | synNop | synSt | synLf | synLr | synLt => rfl
    | _ => simp [Instr.eventClass] at hi

/-- R191: as for a completion. -/
theorem ServedIfPending.tfDisp_eq_false (h : ServedIfPending .dsp s t) : t.tfDisp = false := by
  obtain ⟨hc, rfl⟩ | ⟨i, hi, hp⟩ := h
  · exact hc
  · cases hp with
    | dspLoad | dspEn => rfl
    | _ => simp [Instr.eventClass] at hi

/-- R190: a tick shows in the refresher's fields only. -/
theorem ServedIfPending.maskDisplay_eq (h : ServedIfPending .dsp s t) : maskDisplay t = maskDisplay s := by
  obtain ⟨-, rfl⟩ | ⟨i, hi, hp⟩ := h
  · rfl
  · exact hp.maskDisplay_of_dsp hi

/-- A state between two cycles of the eager schedule: everything pending has been served. -/
def Settled (s : State) : Prop := Sound s ∧ s.tfSyn = false ∧ s.tfDisp = false

/-- R97: from a settled state a cycle of the eager schedule runs: it counts, serves the completion, serves the tick, and
ends in a settled state. -/
theorem exists_cycle (hs : Settled s) : ∃ u v, Sound (cntEffect s) ∧ ServedIfPending .syn (cntEffect s) u ∧
    cycle s = .next v ∧ Settled v ∧ maskDisplay v = maskDisplay u := by
  obtain ⟨hsound, hsyn, hdisp⟩ := hs
  have hcnt := Performs.cnt hsyn hdisp
  obtain ⟨u, hu⟩ := exists_servedIfPending .syn (cntEffect s)
  obtain ⟨v, hv⟩ := exists_servedIfPending .dsp u
  have hsyn' : serveSynIfPending (cntEffect s) = .next u := hu.ite_serve_eq
  have hdisp' : serveDspIfPending u = .next v := hv.ite_serve_eq
  have hcycle : cycle s = .next v := by
    simp only [cycle, andThen_next_iff]
    exact ⟨u, ⟨_, hcnt.serve_eq rfl, hsyn'⟩, hdisp'⟩
  have hsoundcnt := hcnt.keeps_sound hsound
  have hmask := hv.maskDisplay_eq
  have hvsyn : v.tfSyn = false := (congrArg State.tfSyn hmask).trans hu.tfSyn_eq_false
  exact ⟨u, v, hsoundcnt, hu, hcycle, ⟨hv.keeps_sound (hu.keeps_sound hsoundcnt), hvsyn, hv.tfDisp_eq_false⟩, hmask⟩

/-! ## Runs -/

/-- A run of the eager schedule, by what holds with so many cycles still to go. -/
theorem run_of_cycle {P : Nat → State → Prop} (hcycle : ∀ k s, P (k + 1) s → ∃ u, cycle s = .next u ∧ P k u) (n : Nat)
    {s : State} (hs : P n s) : ∃ u, Machine.run n s = .next u ∧ P 0 u := by
  induction n generalizing s with
  | zero => exact ⟨s, rfl, hs⟩
  | succ n ih =>
    obtain ⟨v, hv, hPv⟩ := hcycle n s hs
    obtain ⟨u, hu, hPu⟩ := ih hPv
    exact ⟨u, andThen_next_iff.2 ⟨v, hv, hu⟩, hPu⟩

theorem run_succ_last {n : Nat} {v : State} (hrun : Machine.run n s = .next v) (hcycle : cycle v = .next u) :
    Machine.run (n + 1) s = .next u := by
  induction n generalizing s with
  | zero =>
    obtain rfl := Host.Outcome.next.inj hrun
    exact andThen_next_iff.2 ⟨u, hcycle, rfl⟩
  | succ n ih =>
    obtain ⟨w, hw, hrest⟩ := andThen_next_iff.1 hrun
    exact andThen_next_iff.2 ⟨w, hw, ih hrest⟩

/-! ## The toggle clock under the eager schedule (R147) -/

theorem Settled.cyclesToToggle_pos (hs : Settled s) : 0 < cyclesToToggle s := by
  obtain ⟨⟨⟨-, -, -, -, -, -, -, hI9⟩, -⟩, hsyn, -⟩ := hs
  exact Machine.cyclesToToggle_pos hI9 hsyn

/-- A completion, if one is pending, finds the clock out and toggles, or leaves both alone. -/
theorem ServedIfPending.toggle_clock (h : ServedIfPending .syn s t) (hs : Sound s) (hm : s.mode ≠ .idle) :
    t.mode = s.mode ∧ t.t = s.t ∧ realisedHalfPeriod t = realisedHalfPeriod s ∧
    (t.out = s.out ∧ cyclesToToggle t = cyclesToToggle s ∨
      t.out = !s.out ∧ cyclesToToggle s = 0 ∧ cyclesToToggle t = realisedHalfPeriod s) := by
  obtain ⟨-, rfl⟩ | ⟨i, hi, hp⟩ := h
  · exact ⟨rfl, rfl, rfl, .inl ⟨rfl, rfl⟩⟩
  · have hmt : t.mode = s.mode ∧ t.t = s.t := by
      cases hp with
      | synNop | synSt | synLf | synLr | synLt => exact ⟨rfl, rfl⟩
      | _ => simp [Instr.eventClass] at hi
    obtain ⟨hmode, htime⟩ := hmt
    obtain ⟨hhalf, ⟨hlater, -⟩ | ⟨-, hout, hclock⟩ | ⟨-, hout, hzero, hclock⟩⟩ := hp.toggle_clock hs hm (by rwa [hmode])
    · omega
    · exact ⟨hmode, htime, hhalf, .inl ⟨hout, hclock⟩⟩
    · exact ⟨hmode, htime, hhalf, .inr ⟨hout, hzero, hclock⟩⟩

/-- One cycle: the clock falls by one, and the output toggles when that was the last. -/
theorem exists_cycle_toggle_clock (hs : Settled s) (hm : s.mode ≠ .idle) : ∃ v, cycle s = .next v ∧ Settled v ∧
    v.mode = s.mode ∧ v.t = s.t + 1 ∧ realisedHalfPeriod v = realisedHalfPeriod s ∧
    (v.out = s.out ∧ cyclesToToggle v + 1 = cyclesToToggle s ∨
      v.out = !s.out ∧ cyclesToToggle s = 1 ∧ cyclesToToggle v = realisedHalfPeriod s) := by
  obtain ⟨u, v, hsoundcnt, hu, hcycle, hv, hmask⟩ := exists_cycle hs
  obtain ⟨hsound, hsyn, hdisp⟩ := hs
  have hcnt : cyclesToToggle (cntEffect s) + 1 = cyclesToToggle s := by
    obtain ⟨-, ⟨-, -, hclock⟩ | ⟨htime, -⟩ | ⟨htime, -⟩⟩ := (Performs.cnt hsyn hdisp).toggle_clock hsound hm hm
    · exact hclock
    · exact absurd htime (Nat.succ_ne_self _)
    · exact absurd htime (Nat.succ_ne_self _)
  have hhalfv : realisedHalfPeriod v = realisedHalfPeriod u := (congrArg realisedHalfPeriod hmask :)
  have hclockv : cyclesToToggle v = cyclesToToggle u := (congrArg cyclesToToggle hmask :)
  have houtv : v.out = u.out := (congrArg State.out hmask :)
  obtain ⟨hmode, htime, hhalf, hserved⟩ := hu.toggle_clock hsoundcnt hm
  refine ⟨v, hcycle, hv, (congrArg State.mode hmask).trans hmode, (congrArg State.t hmask).trans htime,
    hhalfv.trans hhalf, ?_⟩
  rw [houtv, hclockv]
  obtain ⟨hout, hclock⟩ | ⟨hout, hzero, hclock⟩ := hserved
  · exact .inl ⟨hout, by rw [hclock, hcnt]⟩
  · exact .inr ⟨hout, by rw [← hcnt, hzero], hclock⟩

/-- With more than `k` cycles to go, `k` cycles run and leave the output's level. -/
theorem exists_run_before_toggle (hs : Settled s) (hm : s.mode ≠ .idle) {k : Nat} (hk : k < cyclesToToggle s) :
    ∃ u, Machine.run k s = .next u ∧ Settled u ∧ u.mode = s.mode ∧ u.out = s.out ∧ u.t = s.t + k ∧
      cyclesToToggle u + k = cyclesToToggle s ∧ realisedHalfPeriod u = realisedHalfPeriod s := by
  induction k with
  | zero => exact ⟨s, rfl, hs, rfl, rfl, rfl, rfl, rfl⟩
  | succ k ih =>
    obtain ⟨v, hrun, hv, hmode, hout, htime, hclock, hhalf⟩ := ih (Nat.lt_of_succ_lt hk)
    obtain ⟨u, hcycle, hu, hmode', htime', hhalf', ⟨hout', hclock'⟩ | ⟨-, hone, -⟩⟩ :=
      exists_cycle_toggle_clock hv (by rwa [hmode])
    · exact ⟨u, run_succ_last hrun hcycle, hu, hmode'.trans hmode, hout'.trans hout, by omega, by omega,
        hhalf'.trans hhalf⟩
    · omega

/-- Settles O53: the run up to the last cycle (`exists_run_before_toggle`), and the last one. -/
theorem eagerRunTogglesAfterTheHalfPeriod : Obligations.EagerRunTogglesAfterTheHalfPeriod := by
  intro s hsound hm hsyn hdisp
  have hs : Settled s := ⟨hsound, hsyn, hdisp⟩
  refine ⟨hs.cyclesToToggle_pos, fun k hk => ?_, ?_⟩
  · obtain ⟨u, hrun, -, -, hout, htime, -⟩ := exists_run_before_toggle hs hm hk
    exact ⟨u, hrun, hout, htime⟩
  · obtain ⟨n, hn⟩ : ∃ n, cyclesToToggle s = n + 1 := Nat.exists_eq_add_one.2 hs.cyclesToToggle_pos
    obtain ⟨v, hrun, hv, hmode, hout, htime, hclock, hhalf⟩ := exists_run_before_toggle (k := n) hs hm (by omega)
    obtain ⟨u, hcycle, hu, hmode', htime', -, hlast⟩ := exists_cycle_toggle_clock hv (by rwa [hmode])
    obtain ⟨-, hclock'⟩ | ⟨hout', -, hclock'⟩ := hlast
    · have := hu.cyclesToToggle_pos
      omega
    · obtain ⟨-, husyn, hudisp⟩ := hu
      rw [hn]
      exact ⟨u, run_succ_last hrun hcycle, by rw [hout', hout], by omega, hmode'.trans hmode, husyn, hudisp,
        hclock'.trans hhalf⟩

/-! ## Entering a digit (R97, R172) -/

theorem rowFound_matrixOf (p : KeyRow × KeyCol) : rowFound (matrixOf [p]) = some p.1 := by
  revert p; decide

theorem colFound_matrixOf (p : KeyRow × KeyCol) : colFound (matrixOf [p]) p.1 = some p.2 := by
  revert p; decide

/-- R97: with the digit's key alone down, the two key steps find its row and the digit. -/
theorem exists_enterKeys (v : Digit) (hs : Sound s) (hA : s.activeFlag = false) (hk : s.ks = .rows) :
    ∃ r, let t := { s with d := s.d.shiftIn v, rowLatch := r, ks := .debounce, debLeft := 6, tDeb := ⟨0, true⟩,
                           pressed := noKeys }
      enterKeys v s = .next t ∧ Sound t := by
  obtain ⟨p, -, hp, hkeys⟩ := keysFor_spec s.cfg v
  have hrow : rowFound (keysFor s.cfg.keyMap v) = some p.1 := by rw [hkeys, rowFound_matrixOf]
  have hdig : digitFound s.cfg.keyMap (keysFor s.cfg.keyMap v) p.1 = some v := by
    rw [hkeys, digitFound_of_colFound _ (colFound_matrixOf p), hp]
  have h₁ := Performs.keyRowHit (s := { s with pressed := keysFor s.cfg.keyMap v }) p.1 hA hk hrow
  have h₂ := Performs.keyColDigit (s := { s with pressed := keysFor s.cfg.keyMap v, rowLatch := p.1, ks := .cols })
    v hA rfl hdig
  have hsound := h₂.keeps_sound (h₁.keeps_sound hs)
  rw [startDebounce_eq] at h₂ hsound
  exact ⟨p.1, (enterKeys_next_iff v).2 ⟨⟨hA, hk⟩, _, _, h₁.serve_eq rfl, h₂.serve_eq rfl, rfl⟩, hsound⟩

/-- One cycle while inactive: no completion comes, and the wait loses the cycle. -/
theorem exists_cycle_debounceClock (hs : Settled s) (hA : s.activeFlag = false) (hk : s.ks = .debounce) :
    ∃ v, cycle s = .next v ∧ Settled v ∧ v.activeFlag = false ∧ v.d = s.d ∧ v.out = s.out ∧ v.t = s.t + 1 ∧
      debounceCyclesLeft v + 1 = debounceCyclesLeft s ∧ WaitingOrDone v := by
  obtain ⟨u, v, -, hu, hcycle, hv, hmask⟩ := exists_cycle hs
  obtain ⟨⟨⟨hI2, -, hI4, -, -, hI7, -, hI9⟩, -⟩, hsyn, hdisp⟩ := hs
  obtain ⟨-, hquiet⟩ := (Performs.cnt hsyn hdisp).idle_stays_low hI4 (hI2 hA).1
  obtain rfl := hu.eq_self hquiet
  obtain ⟨hclock, hwait⟩ := cntEffect_debounceClock hI7 hI9 hk
  have hclockv : debounceCyclesLeft v = debounceCyclesLeft (cntEffect s) := (congrArg debounceCyclesLeft hmask :)
  have hwaitv : WaitingOrDone v = WaitingOrDone (cntEffect s) := (congrArg WaitingOrDone hmask :)
  exact ⟨v, hcycle, hv, (congrArg State.activeFlag hmask).trans hA, (congrArg State.d hmask :),
    (congrArg State.out hmask :), (congrArg State.t hmask :), by rw [hclockv, hclock], hwaitv ▸ hwait⟩

/-- A state of the run of `enter` with `k` cycles to go, up to the time `T`. -/
def Entering (d : DigitBuffer) (out : Bool) (T k : Nat) (s : State) : Prop :=
  Settled s ∧ s.activeFlag = false ∧ s.d = d ∧ s.out = out ∧ s.t + k = T ∧ debounceCyclesLeft s = k ∧ WaitingOrDone s

theorem Entering.exists_cycle {d : DigitBuffer} {out : Bool} {T k : Nat} (h : Entering d out T (k + 1) s) :
    ∃ u, cycle s = .next u ∧ Entering d out T k u := by
  obtain ⟨hs, hA, hd, hout, htime, hleft, -⟩ := h
  have hk : s.ks = .debounce := by
    obtain ⟨⟨⟨-, -, -, -, -, hI7, -, hI9⟩, -⟩, -⟩ := hs
    exact (debounceCyclesLeft_pos_iff hI7 hI9).1 (by omega)
  obtain ⟨v, hcycle, hv, hA', hd', hout', htime', hleft', hwait⟩ := exists_cycle_debounceClock hs hA hk
  exact ⟨v, hcycle, hv, hA', hd'.trans hd, hout'.trans hout, by omega, by omega, hwait⟩

/-- Settles O35: `exists_enterKeys` starts the wait with six whole spans left, and `Entering` is kept to its end. -/
theorem enteringADigitTakesSixSpans : Obligations.EnteringADigitTakesSixSpans := by
  intro s v hs hA hk hdisp
  obtain ⟨r, hkeys, hsound⟩ := exists_enterKeys v hs hA hk
  obtain ⟨⟨hI2, -, hI4, -⟩, -⟩ := hs
  obtain ⟨hsyn, -⟩ := hI4.2 (hI2 hA).1
  obtain ⟨u, hrun, hu⟩ := run_of_cycle (P := Entering (s.d.shiftIn v) s.out (s.t + 6 * s.cfg.timerRange))
    (fun _ _ => Entering.exists_cycle) (6 * s.cfg.timerRange)
    ⟨⟨hsound, hsyn, hdisp⟩, hA, rfl, rfl, rfl, rfl, .inl rfl⟩
  obtain ⟨⟨⟨⟨-, -, -, -, -, hI7, -, hI9⟩, -⟩, -⟩, hAu, hdu, houtu, htimeu, hleft, hwait⟩ := hu
  have hku : u.ks ≠ .debounce := fun hku => ((debounceCyclesLeft_pos_iff hI7 hI9).2 hku).ne' hleft
  obtain ⟨hrows, hleftu, hch⟩ := hwait.resolve_left hku
  exact ⟨_, u, hkeys, rfl, rfl, rfl, rfl, rfl, andThen_next_iff.2 ⟨_, hkeys, hrun⟩, hdu, hrows, hleftu, hch, htimeu,
    hAu, houtu⟩

end Sys2Proof.Machine

/-!
PROOFS. From reset (spec/70_reset_and_hazards.md section 1): which classes are enabled, what an edge and a key step do
there, and the eager schedule up to the first display tick.
-/

namespace Sys2Proof

theorem rowFound_isSome_iff {m : KeyMatrix} : (rowFound m).isSome = true ↔ ∃ r k, m.read r k = true := by
  constructor
  · intro h
    by_contra hnone
    rw [rowFound_eq_none fun r k => Bool.eq_false_iff.2 fun hdown => hnone ⟨r, k, hdown⟩] at h
    exact Bool.false_ne_true h
  · rintro ⟨r, k, hdown⟩
    have hrow := rowReports_of_read hdown
    rw [rowFound_isSome]
    fin_cases r <;> simp_all

namespace Machine

/-! ## What may happen right after reset -/

theorem enabled_resetWith (c : Config) (k : EventClass) :
    enabled k (State.resetWith c) = true ↔ k = .ctl ∨ k = .key ∨ k = .cnt := by
  cases k <;> simp [State.resetWith]

/-- R201: the edge in an inactive state is an activation. -/
theorem exists_activation {s : State} (hA : s.activeFlag = false) :
    ∃ i t, decodeSel (formSel .ctl s) = some i ∧ i ∈ [Instr.actZ, .actS, .actL] ∧ exec i s = .next t ∧
      t.activeFlag = true := by
  obtain ⟨i, t, h, hi⟩ := exists_performs_ctl s
  have hactivation : i ∈ [Instr.actZ, .actS, .actL] := by
    cases h with
    | actZ | actS | actL => simp
    | deact hA' => exact absurd (hA.symm.trans hA') Bool.false_ne_true
    | _ => simp [Instr.eventClass] at hi
  exact ⟨i, t, h.decodeSel_formSel hi, hactivation, exec_of_performs h, by rw [h.activeFlag_toggles hi, hA]; rfl⟩

/-- R164, R165: phase 1 of a scan hits exactly when some key is down. -/
theorem decodeSel_formSel_key_of_rows {s : State} (hA : s.activeFlag = false) (hk : s.ks = .rows)
    [Decidable (∃ r k, s.pressed.read r k = true)] :
    decodeSel (formSel .key s) = some (if ∃ r k, s.pressed.read r k = true then .keyRowHit else .keyRowMiss) := by
  split
  · rename_i hdown
    obtain ⟨r, hrow⟩ := Option.isSome_iff_exists.1 (rowFound_isSome_iff.2 hdown)
    exact (Performs.keyRowHit r hA hk hrow).decodeSel_formSel rfl
  · rename_i hup
    have hrow := Option.not_isSome_iff_eq_none.1 (mt rowFound_isSome_iff.1 hup)
    exact (Performs.keyRowMiss hA hk hrow).decodeSel_formSel rfl

/-! ## Up to the first display tick -/

/-- The reset state `k` cycles later: the other two channels are stopped, so only the time and `T_DISP` have moved. -/
def quietReset (c : Config) (k : Nat) : State := { State.resetWith c with t := k, tDispCnt := k }

theorem cntEffect_quietReset {c : Config} {k : Nat} (hk : k + 1 < c.dispPeriod) :
    cntEffect (quietReset c k) = quietReset c (k + 1) := by
  have hticks : k ≠ c.dispPeriod - 1 := by omega
  rw [cntEffect, countSyn_eq rfl, countDeb_eq, countDisp_eq rfl]
  simp [quietReset, State.resetWith, hticks]

theorem cycle_quietReset {c : Config} {k : Nat} (hk : k + 1 < c.dispPeriod) :
    cycle (quietReset c k) = .next (quietReset c (k + 1)) := by
  have hcnt : serve .cnt (quietReset c k) = .next (quietReset c (k + 1)) := by
    rw [← cntEffect_quietReset hk]
    exact (Performs.cnt rfl rfl).serve_eq rfl
  rw [cycle, hcnt]
  rfl

theorem run_quietReset (c : Config) {k : Nat} (hk : k < c.dispPeriod) :
    Machine.run k (State.resetWith c) = .next (quietReset c k) := by
  induction k with
  | zero => rfl
  | succ k ih => exact run_succ_last (ih (Nat.lt_of_succ_lt hk)) (cycle_quietReset hk)

/-- R133, R192: the cycle that completes the period sets `tf_disp`, and the tick shows the first digit. -/
theorem exists_first_tick (c : Config) : ∃ v w,
    serve .cnt (quietReset c (c.dispPeriod - 1)) = .next v ∧ v.tfDisp = true ∧ serve .dsp v = .next w ∧
    w.digitEn = 0 ∧ w.seg = c.segTable.read c.digitInit.d0 ∧ w.phase = .enableDigit := by
  have hflag : (cntEffect (quietReset c (c.dispPeriod - 1))).tfDisp = true := by
    obtain ⟨-, -, hflag⟩ | ⟨hlast, -⟩ := cntEffect_disp (quietReset c (c.dispPeriod - 1))
    · exact hflag
    · exact absurd rfl hlast
  exact ⟨_, _, (Performs.cnt rfl rfl).serve_eq rfl, hflag, serve_dsp_load hflag rfl, rfl, rfl, rfl⟩

/-- Settles O11: the parameters of this hardware are those of `Platform`; the rest holds for all. -/
theorem resetEnablesEdgeKeyAndCount : Obligations.ResetEnablesEdgeKeyAndCount := by
  refine ⟨Config.platform.timerRange_eq, Config.platform.chainBits_eq, fun c => ⟨enabled_resetWith c,
    exists_activation rfl, fun hzero => ?_, fun m => ?_, fun k hk => ?_, ?_⟩⟩
  · have hf : freqNow (State.resetWith c) = 0 := (congrArg frequency hzero :)
    rw [decodeSel_formSel_ctl_of_inactive rfl, if_pos hf]
  · exact decodeSel_formSel_key_of_rows (s := { State.resetWith c with pressed := m }) rfl rfl
  · exact ⟨_, run_quietReset c hk, rfl, rfl, rfl⟩
  · exact ⟨_, run_quietReset c (Nat.sub_lt c.dispPeriod_pos Nat.one_pos), exists_first_tick c⟩

end Machine
end Sys2Proof
